-- ==== Sys2Proof/Word.lean ====
section
/-! DEFINITION. The value types of the block: a wire byte, a 16-bit half (address, checksum accumulator, CRC) and a 32-bit
register word (spec/00_scope.md R9: "A byte is 8 bits"; R7: register width 32 bits). Every value is unsigned. -/

namespace Sys2Proof

/-- A byte of the wire or of a buffer (R9, R89). -/
abbrev Byte := BitVec 8

/-- A 16-bit quantity: ADDR, TXCHK, the receive accumulator, the CRC register. -/
abbrev Half := BitVec 16

/-- A 32-bit register or bus word (R7, R12). -/
abbrev Word := BitVec 32

/-- A byte offset in the 4 KiB host window (R50, R88: "the 12-bit byte offset"). -/
abbrev Offset := BitVec 12

end Sys2Proof
end

