-- ==== Sys2Proof/Config.lean ====
section
/-! DEFINITION. What is fixed for one block and what the spec leaves open: the constants of spec/00_scope.md R7, the open
parameters of R8, and the free values (draws) of spec/93_implementation_defined.md U1, U2, U4, U13. A free value is an opaque
constant: nothing can be proved about which value it is. -/

namespace Sys2Proof

/-- The seven "global" message element codes of `P_GLOBAL_MEC` (R8, R185). The spec names them and gives no numbers. -/
structure GlobalMec where
  clockSet            : Byte
  dateTimeEnable      : Byte
  activeDatasetSelect : Byte
  rdsOnOff            : Byte
  siteAddressSet      : Byte
  encoderAddressSet   : Byte
  commModeSet         : Byte
  deriving DecidableEq, Repr, Inhabited

/-- The open parameters the block itself reads (R8: "which a model takes as arguments"). `P_T_BYTE` belongs to the
transport and no rule of the block reads it (R232). -/
structure Params where
  /-- `P_CRC_B_REFLECT` (R181): true = least significant bit first. -/
  crcBReflect : Bool
  /-- `P_GLOBAL_MEC` (R185). -/
  globalMec   : GlobalMec
  deriving DecidableEq, Repr

/-- What `Send(b)` returns (R13, R232). -/
inductive SendResult where
  | wok | wtimeout | wioerr
  deriving DecidableEq, Repr, Inhabited

/-- What `Recv()` returns (R13, R232). -/
inductive RecvResult where
  | rbyte (b : Byte) | rtimeout | rioerr
  deriving DecidableEq, Repr, Inhabited

namespace Config

/-- `A_MAX_LEN` (R7). -/
def aMaxLen : Nat := 40
/-- `B_MAX_MFL` (R7). -/
def bMaxMfl : Nat := 254
/-- `SEQ_MOD` (R7). -/
def seqMod : Nat := 10
/-- `POSTAMBLE_LEN` (R7). -/
def postambleLen : Nat := 64
/-- `CRC_SEED` (R7). -/
def crcSeed : Half := 0xFFFF
/-- `CRC_XOROUT` (R7). -/
def crcXorOut : Half := 0xFFFF
/-- `CRC_POLY`, normal form (R7). -/
def crcPoly : Half := 0x1021
/-- `CRC_POLY`, bit-reversed form (R7). -/
def crcPolyReversed : Half := 0x8408
/-- `TXBUF_SIZE` and `RXBUF_SIZE` (R7). -/
def bufSize : Nat := 256
/-- The default this spec takes for `P_CRC_B_REFLECT` (R8, R181). -/
def crcBReflectDefault : Bool := true

/-- `P_GLOBAL_MEC`, OPEN (R8, D24): the codes of the block at hand, with no value known. Log entry 2. -/
opaque globalMec : GlobalMec

/-- The draw of R43 (U1, U2, U4): what the buffer byte at this window offset holds after the reset numbered `epoch`,
until it is written. Free value, log entry 3. -/
opaque bufferDraw : (epoch offset : Nat) → Byte

/-- The transport's free choice at the `n`-th primitive whose answer State does not script (U13): a `Send`. Log entry 4. -/
opaque sendDraw : Nat → SendResult

/-- The transport's free choice at the `n`-th primitive whose answer State does not script (U13): a `Recv`. Log entry 4. -/
opaque recvDraw : Nat → RecvResult

end Config

end Sys2Proof
end

