-- ==== Sys2Proof/Syntax.lean ====
section
/-! DEFINITION. The syntax of everything the host can say to the block: the six commands of spec/opcode_table.json (`Instr`),
the registers of spec/10_state.md R20, one bus access (spec/20_memory.md R12, R52), and a line of the host assembly of
spec/30_encoding.md R86 and R87. -/

namespace Sys2Proof

/-- The commands (R81), one constructor per row of spec/opcode_table.json. A command carries no operand field (R84): its
operands are the registers it reads at acceptance. -/
inductive Instr where
  /-- TX_A, OP 0x01 (R110): send one Protocol A frame. -/
  | txA
  /-- RX_A, OP 0x02 (R140): receive and check one Protocol A reply. -/
  | rxA
  /-- ACK_A, OP 0x03 (R111): send the Protocol A acknowledge primitive. -/
  | ackA
  /-- SEQ_RESET, OP 0x04 (R112): set SEQ to 0. -/
  | seqReset
  /-- TX_B, OP 0x11 (R200): send one Protocol B frame. -/
  | txB
  /-- RX_B, OP 0x12 (R201): always UNSUPPORTED. -/
  | rxB
  deriving DecidableEq, Repr

/-- Why a CMD word is not a command (R82: every other OP is reserved). -/
inductive DecodeError where
  | reservedOp (op : Byte)
  deriving DecidableEq, Repr

/-- The registers of R20 and R51, by name. -/
inductive Reg where
  | cmd | status | cfg | addr | seq | txctl | txlen | txchk | rxhdr | rxinfo | errinfo
  deriving DecidableEq, Repr

/-- What a mapped, aligned offset of the host window names (R51): a register, or word `w` of a buffer. -/
inductive Target where
  | reg (r : Reg)
  | txWord (w : Fin 64)
  | rxWord (w : Fin 64)
  deriving DecidableEq, Repr

/-- The width of a host access (R52: 32 bits; 8 and 16 are bus errors). -/
inductive Width where
  | w8 | w16 | w32
  deriving DecidableEq, Repr

/-- One host bus access: `MemRead(addr, n)` or `MemWrite(addr, n, v)` (R12, R88). A narrower write uses the low bits of
`data`; it is a bus error whatever they are (R52). -/
inductive Access where
  | read (a : Offset) (w : Width)
  | write (a : Offset) (w : Width) (data : Word)
  deriving DecidableEq, Repr

/-- One line of the host assembly (R86), pseudo-instructions included (R87). -/
inductive HostOp where
  /-- `WR <reg>, <v32>` -/
  | wr (r : Reg) (v : Word)
  /-- `RD <reg>` -/
  | rd (r : Reg)
  /-- `WRW TXBUF+<4w>, <v32>` -/
  | wrw (w : Fin 64) (v : Word)
  /-- `RDW RXBUF+<4w>` -/
  | rdw (w : Fin 64)
  /-- `TX_A`, `RX_A`, `ACK_A`, `SEQ_RESET`, `TX_B`, `RX_B` -/
  | command (i : Instr)
  /-- `POLL` -/
  | poll
  /-- `LOADTX b0, b1, ...` -/
  | loadTx (bs : List Byte)
  /-- `SETA type` -/
  | setA (mtype : Byte)
  /-- `SETB mec, dsn, psn, melna` -/
  | setB (mec dsn psn : Byte) (melNa : Bool)
  deriving DecidableEq, Repr

/-- One move of an agent of R18. State holds the moves to come as a list: that list IS the interleaving of host accesses,
arriving bytes and resets with engine steps (R18, U15). Log entry 5. -/
inductive Move where
  /-- The engine takes its next step (R39); in IDLE it takes none. -/
  | engine
  /-- The host performs one bus access. -/
  | host (a : Access)
  /-- The host waits (`POLL`, R87): it reads STATUS until bit 0 of the value read is 0. -/
  | poll
  /-- A byte reaches the transport's input and is held there for a later `Recv` (R65, R232). -/
  | arrive (b : Byte)
  /-- The reset input (R250). -/
  | reset
  deriving DecidableEq, Repr

end Sys2Proof
end

