-- ==== Sys2Proof/WellFormed.lean ====
section
/-! DEFINITION. What a well-formed term of the syntax is. A command has no fields, so every `Instr` is well formed (R84); a
bus access is well formed when it is no bus error (R52, R53); a line of host assembly when its bytes fit TXBUF and TXLEN. -/

namespace Sys2Proof

/-- A command carries no operand (R84): there is nothing that could be ill formed. -/
def Instr.wf : Instr → Bool
  | .txA | .rxA | .ackA | .seqReset | .txB | .rxB => true

/-- The offset is a multiple of 4 (R52). -/
def Offset.aligned (a : Offset) : Bool := a.toNat % 4 == 0

/-- The offset lies in a row of R51's map that is not "unmapped". -/
def Offset.mapped (a : Offset) : Bool :=
  decide (a.toNat ≤ 0x02B) || (decide (0x100 ≤ a.toNat) && decide (a.toNat ≤ 0x2FF))

/-- The access is 32 bits wide, aligned and mapped: it is no bus error (R52, R53). -/
def Access.wf : Access → Bool
  | .read a w | .write a w _ => decide (w = .w32) && Offset.aligned a && Offset.mapped a

/-- A `LOADTX` list fits the 8-bit TXLEN it is written to (R30, R87); every other line is well formed. -/
def HostOp.wf : HostOp → Bool
  | .loadTx bs => decide (bs.length ≤ 255)
  | .command i => i.wf
  | .wr _ _ | .rd _ | .wrw _ _ | .rdw _ | .poll | .setA _ | .setB _ _ _ _ => true

end Sys2Proof
end

