-- ==== Sys2Proof/Decode.lean ====
section
/-! DEFINITION. Decoding: the CMD word to a command (spec/30_encoding.md R80 to R83), a window offset to a register or a
buffer word (spec/20_memory.md R51), a buffer word to its four bytes (R56). After it, the encoder: a command to its CMD word
and a line of host assembly to its bus accesses (R87, R88). -/

namespace Sys2Proof

/-- `CMD.OP` = `CMD[7:0]` (R21, R81). -/
def opField (v : Word) : Byte := v.extractLsb' 0 8

/-- The command map of R81. -/
def decodeOp (op : Byte) : Except DecodeError Instr :=
  if op = 0x01 then .ok .txA
  else if op = 0x02 then .ok .rxA
  else if op = 0x03 then .ok .ackA
  else if op = 0x04 then .ok .seqReset
  else if op = 0x11 then .ok .txB
  else if op = 0x12 then .ok .rxB
  else .error (.reservedOp op)

/-- The command of a CMD write value; bits [31:8] are ignored (R83), a reserved OP is rejected by name (R82). -/
def decode (v : Word) : Except DecodeError Instr := decodeOp (opField v)

/-- The instruction the decoder reads from a table word: the block has one format, one 32-bit CMD write (R83), so the
instruction's bits are the written value and the bits above `nbits` are 0. -/
def decodeTableWord (nbits w : Nat) : Option Instr :=
  match decode (BitVec.ofNat 32 (w % 2 ^ nbits)) with
  | .ok i => some i
  | .error _ => none

/-- The byte offset of a register in the host window (R20, R51). -/
def Reg.offset : Reg → Offset
  | .cmd => 0x000
  | .status => 0x004
  | .cfg => 0x008
  | .addr => 0x00C
  | .seq => 0x010
  | .txctl => 0x014
  | .txlen => 0x018
  | .txchk => 0x01C
  | .rxhdr => 0x020
  | .rxinfo => 0x024
  | .errinfo => 0x028

/-- Every register, in the order of R51. -/
def Reg.all : List Reg :=
  [.cmd, .status, .cfg, .addr, .seq, .txctl, .txlen, .txchk, .rxhdr, .rxinfo, .errinfo]

/-- First byte offset of TXBUF (R51). -/
def txBase : Nat := 0x100

/-- First byte offset of RXBUF (R51). -/
def rxBase : Nat := 0x200

/-- What an offset names (R51); none for a misaligned or unmapped one (R52, R53). -/
def Target.ofOffset (a : Offset) : Option Target :=
  if a.toNat % 4 ≠ 0 then none
  else if a.toNat < txBase then (Reg.all.find? fun r => r.offset == a).map .reg
  else if a.toNat < rxBase then some (.txWord (Fin.ofNat 64 ((a.toNat - txBase) / 4)))
  else if a.toNat < rxBase + Config.bufSize then some (.rxWord (Fin.ofNat 64 ((a.toNat - rxBase) / 4)))
  else none

/-- A buffer word packs four buffer bytes little-endian (R56). -/
def packWord (b0 b1 b2 b3 : Byte) : Word := b3 ++ b2 ++ b1 ++ b0

/-- Byte `j` of a word, byte 0 in bits [7:0] (R56). -/
def wordByte (v : Word) (j : Nat) : Byte := v.extractLsb' (8 * j) 8

/-- The OP of a command (R81). -/
def Instr.op : Instr → Byte
  | .txA => 0x01
  | .rxA => 0x02
  | .ackA => 0x03
  | .seqReset => 0x04
  | .txB => 0x11
  | .rxB => 0x12

/-- The CMD word of a command: `WR CMD, <OP>` (R87). -/
def encode (i : Instr) : Word := i.op.setWidth 32

/-- Offset of TXBUF word `w`: `0x100 + 4*w` (R56, R86). -/
def txWordOffset (w : Nat) : Offset := BitVec.ofNat 12 (txBase + 4 * w)

/-- Offset of RXBUF word `w`: `0x200 + 4*w` (R56, R86). -/
def rxWordOffset (w : Nat) : Offset := BitVec.ofNat 12 (rxBase + 4 * w)

/-- The bus transaction `W <offset> <v32>` of R86. -/
def busW (a : Offset) (v : Word) : Move := .host (.write a .w32 v)

/-- The bus transaction `R <offset>` of R86. -/
def busR (a : Offset) : Move := .host (.read a .w32)

/-- `v_w` of `LOADTX` (R87): bytes `4w .. 4w+3`, bytes past the end 0x00. -/
def loadTxWord (bs : List Byte) (w : Nat) : Word :=
  packWord (bs.getD (4 * w) 0) (bs.getD (4 * w + 1) 0) (bs.getD (4 * w + 2) 0) (bs.getD (4 * w + 3) 0)

/-- The bus transactions of a line of host assembly (R86, R87, R88). -/
def HostOp.expand : HostOp → List Move
  | .wr r v => [busW r.offset v]
  | .rd r => [busR r.offset]
  | .wrw w v => [busW (txWordOffset w.val) v]
  | .rdw w => [busR (rxWordOffset w.val)]
  | .command i => [busW Reg.cmd.offset (encode i)]
  | .poll => [.poll]
  | .loadTx bs =>
    (List.range ((bs.length + 3) / 4)).map (fun w => busW (txWordOffset w) (loadTxWord bs w)) ++
      [busW Reg.txlen.offset (BitVec.ofNat 32 bs.length)]
  | .setA t => [busW Reg.txctl.offset (t.setWidth 32)]
  | .setB mec dsn psn na => [busW Reg.txctl.offset (packWord mec dsn psn ((BitVec.ofBool na).setWidth 8))]

end Sys2Proof
end

