-- ==== Sys2Proof/Machine/State.lean ====
section
/-! DEFINITION. The state of the block as spec/10_state.md gives it (R20 to R43), with the transport's side of the wire, the
moves to come and the block's parameters held as plain data; its reset value (R42, R250); the reasons a step can stop. -/

namespace Sys2Proof.Machine

/-- `STATUS.RESULT` (R23, R220). Codes 8 to 15 are never produced. -/
inductive Result where
  | none | ok | okAckOnly | protocolViolation | timeout | unsupported | invalidArgument | ioFailure
  deriving DecidableEq, Repr

/-- `ERRINFO.KIND` (R221). Code 7 is never produced. -/
inductive Kind where
  | none | unexpected | badDigit | csumMismatch | length | timeout | io
  deriving DecidableEq, Repr

/-- `CFG.PROTO` (R25): 0 selects Protocol A, 1 selects Protocol B. -/
inductive Proto where
  | a | b
  deriving DecidableEq, Repr

/-- The engine's position `st` (R38). Code 3 (RX_EXPECT_ACK) is a reporting code only: `st` never holds it. -/
inductive EngineState where
  | idle
  | rxWaitSyn | rxSkipExtraSyns | rxExpectSynAfterAck | rxExpectEmptyOrFrame
  | rxHdrSyn | rxHdrSoh | rxHdrAddrHi | rxHdrAddrLo | rxHdrSeq
  | rxExpectDleStx | rxExpectStx | rxReadType | rxReadLen | rxReadData | rxReadDataEsc
  | rxExpectDleEtx | rxExpectEtx | rxReadCsumHi | rxReadCsumLo | rxExpectTrailingSyn
  | rxFinish
  | txASend | txAckSend | txBSend
  deriving DecidableEq, Repr

/-- `TXCTL` (R29). -/
structure TxCtl where
  /-- `TYPE`, bits [7:0]: the Protocol A message type or the Protocol B MEC. -/
  mtype : Byte
  /-- `DSN`, bits [15:8]. -/
  dsn   : Byte
  /-- `PSN`, bits [23:16]. -/
  psn   : Byte
  /-- `MEL_NA`, bit 24. -/
  melNa : Bool
  deriving DecidableEq, Repr

/-- `RXHDR` (R32). -/
structure RxHdr where
  /-- `RX_ADDR`, bits [15:0]. -/
  addr  : Half
  /-- `RX_SEQ`, bits [23:16]. -/
  seq   : Byte
  /-- `RX_TYPE`, bits [31:24]. -/
  mtype : Byte
  deriving DecidableEq, Repr

/-- `RXINFO` (R33). -/
structure RxInfo where
  /-- `RX_LEN`, bits [7:0]. -/
  len  : Byte
  /-- `RX_CSUM`, bits [15:8]. -/
  csum : Byte
  deriving DecidableEq, Repr

/-- `ERRINFO` (R34). -/
structure ErrInfo where
  /-- `STATE`, bits [4:0]: the state code of R38 in which the failure was met. -/
  state : BitVec 5
  /-- `KIND`, bits [7:5]. -/
  kind  : Kind
  /-- `BYTE`, bits [15:8]. -/
  byte  : Byte
  /-- `CALC`, bits [23:16]. -/
  computed : Byte
  deriving DecidableEq, Repr

/-- `ERRINFO = 0`. -/
def ErrInfo.zero : ErrInfo := { state := 0, kind := .none, byte := 0, computed := 0 }

/-- The buffers' contents: (window offset, byte) pairs for the bytes written since reset, offsets strictly rising. An
unlisted offset holds no written value (log entry 3). -/
abbrev Memory := List Host.Cell

/-- The transport at its interface (R13, R232) and its oracle's answers (U13). -/
structure Line where
  /-- The bytes whose `Send` returned WOK, oldest first: the wire to the encoder. -/
  sent        : List Byte
  /-- The bytes that have arrived and were not read yet, oldest first: what `Flush` discards (R65). -/
  held        : List Byte
  /-- The answers of the next `Send`s; when it is empty an answer is a free value. -/
  sendAnswers : List SendResult
  /-- The answers of the next `Recv`s that find nothing held; when it is empty an answer is a free value. -/
  recvAnswers : List RecvResult
  deriving DecidableEq, Repr

/-- What the last host access returned: `(data, err)` of a read, `err` of a write with data 0 (R12, R52). -/
structure BusAnswer where
  data : Word
  err  : Bool
  deriving DecidableEq, Repr

/-- The state. The first group is host-visible (R20), the second the engine's hidden registers (R38, R41), the third is
not the block's: the wire, the bus answer, the moves to come, the parameters and the two counters of the free values. -/
structure State where
  /-- `STATUS.BUSY` (R22). -/
  busy    : Bool
  /-- `STATUS.RESULT` (R23). -/
  result  : Result
  /-- `STATUS.WBUSY` (R24). -/
  wbusy   : Bool
  /-- `CFG.PROTO` (R25). -/
  proto   : Proto
  /-- `ADDR[15:0]` (R26); bit 15 is `ADDR.NR` (R27). -/
  addr    : Half
  /-- `SEQ[3:0]` (R28). -/
  seq     : BitVec 4
  /-- `TXCTL` (R29). -/
  txctl   : TxCtl
  /-- `TXLEN.LEN` (R30). -/
  txlen   : Byte
  /-- `TXCHK.CHK` (R31). -/
  txchk   : Half
  /-- `RXHDR` (R32). -/
  rxhdr   : RxHdr
  /-- `RXINFO` (R33). -/
  rxinfo  : RxInfo
  /-- `ERRINFO` (R34). -/
  errinfo : ErrInfo
  /-- `TXBUF` at 0x100 and `RXBUF` at 0x200 (R35, R36, R51). -/
  mem     : Memory
  /-- `st` (R38). -/
  st      : EngineState
  /-- `txl` (R41). -/
  txl     : List Byte
  /-- `k` (R41). -/
  k       : BitVec 10
  /-- `op` (R41). -/
  op      : Byte
  /-- `acc` (R41). -/
  acc     : Half
  /-- `n` (R41). -/
  n       : Byte
  /-- `i` (R41). -/
  i       : BitVec 6
  /-- `hi` (R41). -/
  hi      : BitVec 4
  /-- `ra` (R41). -/
  ra      : Half
  /-- `rs` (R41). -/
  rs      : Byte
  /-- `rt` (R41). -/
  rt      : Byte
  /-- `rc` (R41). -/
  rc      : Byte
  /-- `pend` (R41). -/
  pend    : Result
  /-- The transport (R13, R65, R232). -/
  line    : Line
  /-- What the last host access returned (R12). -/
  bus     : BusAnswer
  /-- The moves to come; when it is empty the engine moves (log entry 5). -/
  moves   : List Move
  /-- The parameters of R8; no step writes them (log entry 2). -/
  params  : Params
  /-- How many resets the run has seen: which draws of R43 hold (log entry 3). -/
  epoch   : Nat
  /-- How many free transport answers the run has drawn (log entry 4). -/
  draws   : Nat
  deriving DecidableEq, Repr

/-- The reasons the machine stops. The spec has no trap and no encoding that halts or is unpredictable (R85, R226), so no
command and no host access raises one. -/
inductive Fault where
  /-- Raised by a transmit engine step (R114) whose `k` is not an index of `txl`, so that there is no byte `txl[k]` to send.
  The spec gives that step no meaning and no run reaches it (`State.Inv` rules it out). Safe: the model stops. -/
  | noByteToSend
  deriving DecidableEq, Repr

/-- The reasons the model has no meaning for a command. -/
inductive Refusal where
  /-- Raised by an arm of `exec` whose command has no meaning yet; no arm of this model does. Safe: the model stops. -/
  | notModelled (mnemonic : String)
  deriving DecidableEq, Repr

/-- The block right after reset (R42, R250): every register 0, the engine in IDLE, no buffer byte written. The working
registers have no reset value in the spec and read 0 here (log entry 1); the wire, the moves and the bus answer are empty. -/
def State.reset : State where
  busy    := false
  result  := .none
  wbusy   := false
  proto   := .a
  addr    := 0
  seq     := 0
  txctl   := { mtype := 0, dsn := 0, psn := 0, melNa := false }
  txlen   := 0
  txchk   := 0
  rxhdr   := { addr := 0, seq := 0, mtype := 0 }
  rxinfo  := { len := 0, csum := 0 }
  errinfo := ErrInfo.zero
  mem     := []
  st      := .idle
  txl     := []
  k       := 0
  op      := 0
  acc     := 0
  n       := 0
  i       := 0
  hi      := 0
  ra      := 0
  rs      := 0
  rt      := 0
  rc      := 0
  pend    := .none
  line    := { sent := [], held := [], sendAnswers := [], recvAnswers := [] }
  bus     := { data := 0, err := false }
  moves   := []
  params  := { crcBReflect := Config.crcBReflectDefault, globalMec := Config.globalMec }
  epoch   := 0
  draws   := 0

end Sys2Proof.Machine
end

