-- ==== Sys2Proof/Machine/Flags.lean ====
section
/-! DEFINITION. The block's flags and result fields (spec/10_state.md R22 to R24, R27, R37): the numeric codes of RESULT, KIND
and the engine states, and the only ways a command writes BUSY and RESULT: `start` at acceptance, `finish` at its end, and
the guard that drops a host write while BUSY = 1 and sets WBUSY. -/

namespace Sys2Proof.Machine

/-- The code of a result in `STATUS.RESULT` (R220). -/
def Result.code : Result → BitVec 4
  | .none => 0
  | .ok => 1
  | .okAckOnly => 2
  | .protocolViolation => 3
  | .timeout => 4
  | .unsupported => 5
  | .invalidArgument => 6
  | .ioFailure => 7

/-- The code of a failure kind in `ERRINFO.KIND` (R221). -/
def Kind.code : Kind → BitVec 3
  | .none => 0
  | .unexpected => 1
  | .badDigit => 2
  | .csumMismatch => 3
  | .length => 4
  | .timeout => 5
  | .io => 6

/-- The 5-bit code of an engine state (R38). -/
def EngineState.code : EngineState → BitVec 5
  | .idle => 0
  | .rxWaitSyn => 1
  | .rxSkipExtraSyns => 2
  | .rxExpectSynAfterAck => 4
  | .rxExpectEmptyOrFrame => 5
  | .rxHdrSyn => 6
  | .rxHdrSoh => 7
  | .rxHdrAddrHi => 8
  | .rxHdrAddrLo => 9
  | .rxHdrSeq => 10
  | .rxExpectDleStx => 11
  | .rxExpectStx => 12
  | .rxReadType => 13
  | .rxReadLen => 14
  | .rxReadData => 15
  | .rxReadDataEsc => 16
  | .rxExpectDleEtx => 17
  | .rxExpectEtx => 18
  | .rxReadCsumHi => 19
  | .rxReadCsumLo => 20
  | .rxExpectTrailingSyn => 21
  | .rxFinish => 22
  | .txASend => 24
  | .txAckSend => 25
  | .txBSend => 26

/-- The transmit states, whose step is R114. -/
def EngineState.sending : EngineState → Bool
  | .txASend | .txAckSend | .txBSend => true
  | .idle | .rxWaitSyn | .rxSkipExtraSyns | .rxExpectSynAfterAck | .rxExpectEmptyOrFrame | .rxHdrSyn | .rxHdrSoh
  | .rxHdrAddrHi | .rxHdrAddrLo | .rxHdrSeq | .rxExpectDleStx | .rxExpectStx | .rxReadType | .rxReadLen
  | .rxReadData | .rxReadDataEsc | .rxExpectDleEtx | .rxExpectEtx | .rxReadCsumHi | .rxReadCsumLo
  | .rxExpectTrailingSyn | .rxFinish => false

/-- The states from RX_WAIT_SYN to RX_EXPECT_TRAILING_SYN, whose step begins with a `Recv` (R141). -/
def EngineState.receiving : EngineState → Bool
  | .rxWaitSyn | .rxSkipExtraSyns | .rxExpectSynAfterAck | .rxExpectEmptyOrFrame | .rxHdrSyn | .rxHdrSoh
  | .rxHdrAddrHi | .rxHdrAddrLo | .rxHdrSeq | .rxExpectDleStx | .rxExpectStx | .rxReadType | .rxReadLen
  | .rxReadData | .rxReadDataEsc | .rxExpectDleEtx | .rxExpectEtx | .rxReadCsumHi | .rxReadCsumLo
  | .rxExpectTrailingSyn => true
  | .idle | .rxFinish | .txASend | .txAckSend | .txBSend => false

/-- The states after a reply's data region, up to its trailing SYN (R158 to R161). -/
def EngineState.inTrailer : EngineState → Bool
  | .rxExpectDleEtx | .rxExpectEtx | .rxReadCsumHi | .rxReadCsumLo | .rxExpectTrailingSyn => true
  | .idle | .rxWaitSyn | .rxSkipExtraSyns | .rxExpectSynAfterAck | .rxExpectEmptyOrFrame | .rxHdrSyn | .rxHdrSoh
  | .rxHdrAddrHi | .rxHdrAddrLo | .rxHdrSeq | .rxExpectDleStx | .rxExpectStx | .rxReadType | .rxReadLen
  | .rxReadData | .rxReadDataEsc | .rxFinish | .txASend | .txAckSend | .txBSend => false

/-- The states that read a reply's data region (R154, R156). -/
def EngineState.inData : EngineState → Bool
  | .rxReadData | .rxReadDataEsc => true
  | .idle | .rxWaitSyn | .rxSkipExtraSyns | .rxExpectSynAfterAck | .rxExpectEmptyOrFrame | .rxHdrSyn | .rxHdrSoh
  | .rxHdrAddrHi | .rxHdrAddrLo | .rxHdrSeq | .rxExpectDleStx | .rxExpectStx | .rxReadType | .rxReadLen
  | .rxExpectDleEtx | .rxExpectEtx | .rxReadCsumHi | .rxReadCsumLo | .rxExpectTrailingSyn | .rxFinish
  | .txASend | .txAckSend | .txBSend => false

/-- The opcode of the command that runs in a state (R41: `op`); 0 in IDLE. -/
def EngineState.runningOp : EngineState → BitVec 8
  | .idle => 0
  | .txASend => 0x01
  | .txAckSend => 0x03
  | .txBSend => 0x11
  | .rxWaitSyn | .rxSkipExtraSyns | .rxExpectSynAfterAck | .rxExpectEmptyOrFrame | .rxHdrSyn | .rxHdrSoh
  | .rxHdrAddrHi | .rxHdrAddrLo | .rxHdrSeq | .rxExpectDleStx | .rxExpectStx | .rxReadType | .rxReadLen
  | .rxReadData | .rxReadDataEsc | .rxExpectDleEtx | .rxExpectEtx | .rxReadCsumHi | .rxReadCsumLo
  | .rxExpectTrailingSyn | .rxFinish => 0x02

/-- The result a failure of this kind gives (R221: "Kinds 1 to 4 go with RESULT = PROTOCOL_VIOLATION, kind 5 with TIMEOUT,
kind 6 with IO_FAILURE"). -/
def Kind.result : Kind → Result
  | .none => .none
  | .unexpected | .badDigit | .csumMismatch | .length => .protocolViolation
  | .timeout => .timeout
  | .io => .ioFailure

/-- The results that report a failure after acceptance (R221, R222). -/
def Result.isFailure : Result → Bool
  | .protocolViolation | .timeout | .ioFailure => true
  | .none | .ok | .okAckOnly | .unsupported | .invalidArgument => false

/-- RX_EXPECT_ACK, the reporting code of the ACK check (R38, R144). -/
def expectAckCode : BitVec 5 := 3

/-- `CFG.PROTO` of a written bit (R25). -/
def Proto.ofBit (b : Bool) : Proto := if b then .b else .a

/-- `CFG.PROTO` as its bit (R25). -/
def Proto.bit : Proto → Bool
  | .a => false
  | .b => true

/-- `ADDR.NR` = `ADDR[15]`, the no-reply flag (R27). -/
def State.nr (s : State) : Bool := s.addr.getLsbD 15

/-- `finish(RESULT_CODE)` (R14): writes RESULT, clears BUSY, returns the engine to IDLE. -/
def finish (r : Result) (s : State) : State :=
  { s with result := r, busy := false, st := .idle }

/-- The acceptance of a command that needs the transport (R80): ERRINFO cleared, RESULT NONE, BUSY set, the engine in the
command's first state. -/
def start (op : Byte) (first : EngineState) (s : State) : State :=
  { s with errinfo := ErrInfo.zero, result := .none, busy := true, op := op, st := first }

/-- A host write that BUSY = 1 blocks (R24, R60): it takes effect when BUSY = 0, else it is dropped and WBUSY is set. -/
def whileIdle (f : State → State) (s : State) : State :=
  if s.busy then { s with wbusy := true } else f s

/-- A write to STATUS changes only WBUSY, cleared by bit 8 = 1 (R24, R54). -/
def writeStatus (v : Word) (s : State) : State :=
  { s with wbusy := s.wbusy && !v.getLsbD 8 }

end Sys2Proof.Machine
end

