-- ==== Sys2Proof/Machine/Ops.lean ====
section
/-! DEFINITION. The named operations over the block's storage and interfaces: the buffers (spec/10_state.md R35, R36, R43),
the register views (R20), the bus accesses (spec/20_memory.md R51 to R60), the transport primitives (spec/60_exceptions.md
R232), the error capture (R228) and reset (spec/70_reset_and_hazards.md R250). The block has no trap (R226): a failure ends
the command by `raise` (transmit) or `rxFail` (receive), its form of taking an exception; there is nothing to return from. -/

namespace Sys2Proof.Machine

/-! ### The buffers -/

/-- The byte written at offset `a` since reset, if any. -/
def Memory.get? (a : Nat) : Memory → Option Byte
  | [] => none
  | c :: m => if c.1 = a then some c.2 else Memory.get? a m

/-- Write byte `b` at offset `a`, keeping the offsets rising. -/
def Memory.set (a : Nat) (b : Byte) : Memory → Memory
  | [] => [(a, b)]
  | c :: m =>
    if a < c.1 then (a, b) :: c :: m
    else if a = c.1 then (a, b) :: m
    else c :: Memory.set a b m

/-- Offset `a` is a byte of TXBUF or RXBUF (R51). -/
def isBufferOffset (a : Nat) : Bool :=
  decide (txBase ≤ a) && decide (a < rxBase + Config.bufSize)

/-- The canonical form: offsets strictly rising, each a buffer offset. An unlisted offset holds no written value, so no
entry can equal what it reads as. -/
def Memory.wf (m : Memory) : Bool :=
  decide ((m.map Prod.fst).Pairwise (· < ·)) && m.all fun c => isBufferOffset c.1

/-- The buffer byte at window offset `a`: the byte last written, or its draw (R43). -/
def State.byteAt (s : State) (a : Nat) : Byte :=
  (s.mem.get? a).getD (Config.bufferDraw s.epoch a)

/-- `TXBUF[j]` (R35). -/
def State.txBuf (s : State) (j : Nat) : Byte := s.byteAt (txBase + j)

/-- `RXBUF[j]` (R36). -/
def State.rxBuf (s : State) (j : Nat) : Byte := s.byteAt (rxBase + j)

/-- `RXBUF[j] <- b` (R155). -/
def State.setRxBuf (j : Nat) (b : Byte) (s : State) : State :=
  { s with mem := s.mem.set (rxBase + j) b }

/-- The word of four buffer bytes at window offset `a` (R56). -/
def State.wordAt (s : State) (a : Nat) : Word :=
  packWord (s.byteAt a) (s.byteAt (a + 1)) (s.byteAt (a + 2)) (s.byteAt (a + 3))

/-- Store the four bytes of a word at window offset `a` (R56). -/
def State.storeWord (a : Nat) (v : Word) (s : State) : State :=
  { s with
    mem := (((s.mem.set a (wordByte v 0)).set (a + 1) (wordByte v 1)).set (a + 2) (wordByte v 2)).set
      (a + 3) (wordByte v 3) }

/-! ### The registers -/

/-- STATUS: BUSY[0], RESULT[7:4], WBUSY[8], the rest 0 (R20, R55). -/
def statusWord (s : State) : Word :=
  0#23 ++ BitVec.ofBool s.wbusy ++ s.result.code ++ 0#3 ++ BitVec.ofBool s.busy

/-- TXCTL: TYPE[7:0], DSN[15:8], PSN[23:16], MEL_NA[24] (R29). -/
def txctlWord (c : TxCtl) : Word :=
  0#7 ++ BitVec.ofBool c.melNa ++ c.psn ++ c.dsn ++ c.mtype

/-- The TXCTL fields of a written word; bits [31:25] are discarded (R29, R55). -/
def txctlOfWord (v : Word) : TxCtl :=
  { mtype := wordByte v 0, dsn := wordByte v 1, psn := wordByte v 2, melNa := v.getLsbD 24 }

/-- RXHDR: RX_ADDR[15:0], RX_SEQ[23:16], RX_TYPE[31:24] (R32). -/
def rxhdrWord (h : RxHdr) : Word := h.mtype ++ h.seq ++ h.addr

/-- RXINFO: RX_LEN[7:0], RX_CSUM[15:8] (R33). -/
def rxinfoWord (x : RxInfo) : Word := 0#16 ++ x.csum ++ x.len

/-- ERRINFO: STATE[4:0], KIND[7:5], BYTE[15:8], CALC[23:16] (R34). -/
def errinfoWord (e : ErrInfo) : Word := 0#8 ++ e.computed ++ e.byte ++ e.kind.code ++ e.state

/-- The value a host read of a register returns (R20, R54, R55); CMD reads 0 (R21). -/
def readReg (s : State) : Reg → Word
  | .cmd => 0
  | .status => statusWord s
  | .cfg => (BitVec.ofBool s.proto.bit).setWidth 32
  | .addr => s.addr.setWidth 32
  | .seq => s.seq.setWidth 32
  | .txctl => txctlWord s.txctl
  | .txlen => s.txlen.setWidth 32
  | .txchk => s.txchk.setWidth 32
  | .rxhdr => rxhdrWord s.rxhdr
  | .rxinfo => rxinfoWord s.rxinfo
  | .errinfo => errinfoWord s.errinfo

/-- A host write of a register other than CMD (R24 to R30, R54, R60). A write to CMD issues a command instead
(Machine/Bus.lean). -/
def writeReg (v : Word) : Reg → State → State
  | .cmd, s => s
  | .status, s => writeStatus v s
  | .cfg, s => whileIdle (fun s => { s with proto := Proto.ofBit (v.getLsbD 0) }) s
  | .addr, s => whileIdle (fun s => { s with addr := v.extractLsb' 0 16 }) s
  | .txctl, s => whileIdle (fun s => { s with txctl := txctlOfWord v }) s
  | .txlen, s => whileIdle (fun s => { s with txlen := v.extractLsb' 0 8 }) s
  | .seq, s | .txchk, s | .rxhdr, s | .rxinfo, s | .errinfo, s => s

/-! ### Bus accesses -/

/-- Window offset of TXBUF word `w` (R56). -/
def txWordBase (w : Fin 64) : Nat := txBase + 4 * w.val

/-- Window offset of RXBUF word `w` (R56). -/
def rxWordBase (w : Fin 64) : Nat := rxBase + 4 * w.val

/-- What an access reaches; none is a bus error (R52, R53). -/
def accessTarget (a : Offset) (w : Width) : Option Target :=
  match w with
  | .w32 => Target.ofOffset a
  | .w8 | .w16 => none

/-- The value at a target (R54, R56). -/
def readTarget (s : State) : Target → Word
  | .reg r => readReg s r
  | .txWord w => s.wordAt (txWordBase w)
  | .rxWord w => s.wordAt (rxWordBase w)

/-- `MemRead(a, n)`: the data and the error bit (R12, R52, R53, R54). -/
def memRead (s : State) (a : Offset) (w : Width) : BusAnswer :=
  match accessTarget a w with
  | some t => { data := readTarget s t, err := false }
  | none => { data := 0, err := true }

/-- A host write to a target other than CMD: a TXBUF word is stored while BUSY = 0 (R56, R60), an RXBUF word is read-only
(R54). -/
def writeTarget (v : Word) : Target → State → State
  | .reg r, s => writeReg v r s
  | .txWord w, s => whileIdle (State.storeWord (txWordBase w) v) s
  | .rxWord _, s => s

/-- Record what an access returned to the host. -/
def State.answer (b : BusAnswer) (s : State) : State := { s with bus := b }

/-- The answer of a write: `err` alone (R12). -/
def writeAnswer (err : Bool) : BusAnswer := { data := 0, err := err }

/-! ### The transport -/

/-- `Send(b)` (R13, R232): the transport's next answer, a free value when State scripts none (U13). A byte is on the wire
when the answer is WOK. -/
def State.send (b : Byte) (s : State) : SendResult × State :=
  match s.line.sendAnswers with
  | r :: rs => (r, { s with line := { s.line with
      sendAnswers := rs, sent := if r = .wok then s.line.sent ++ [b] else s.line.sent } })
  | [] =>
    let r := Config.sendDraw s.draws
    (r, { s with draws := s.draws + 1, line := { s.line with
      sent := if r = .wok then s.line.sent ++ [b] else s.line.sent } })

/-- `Recv()` (R13, R232): the oldest held byte; where none is held, the transport's next answer, a free value when State
scripts none (U13). -/
def State.recv (s : State) : RecvResult × State :=
  match s.line.held with
  | b :: bs => (.rbyte b, { s with line := { s.line with held := bs } })
  | [] =>
    match s.line.recvAnswers with
    | r :: rs => (r, { s with line := { s.line with recvAnswers := rs } })
    | [] => (Config.recvDraw s.draws, { s with draws := s.draws + 1 })

/-- `Flush()` (R13, R65): discards exactly the input held now. -/
def State.flush (s : State) : State := { s with line := { s.line with held := [] } }

/-- A byte reaches the transport's input. -/
def State.arrive (b : Byte) (s : State) : State :=
  { s with line := { s.line with held := s.line.held ++ [b] } }

/-! ### Failures -/

/-- The error capture of R228, with the fields of R221. -/
def capture (code : BitVec 5) (kind : Kind) (b computed : Byte) (s : State) : State :=
  { s with errinfo := { state := code, kind := kind, byte := b, computed := computed } }

/-- The failure of a transmit step (R114): the capture, then `finish`; no flush, no retry (R227, R229). -/
def raise (r : Result) (kind : Kind) (b : Byte) (s : State) : State :=
  finish r (capture s.st.code kind b 0 s)

/-- The failure of a receive step (R141, R142): the capture, then `pend` and RX_FINISH. -/
def rxFail (r : Result) (code : BitVec 5) (kind : Kind) (b computed : Byte) (s : State) : State :=
  { capture code kind b computed s with pend := r, st := .rxFinish }

/-- `viol(kind, b, calc)` (R142). -/
def viol (kind : Kind) (b computed : Byte) (s : State) : State :=
  rxFail .protocolViolation s.st.code kind b computed s

/-! ### Reset -/

/-- The reset input (R250, R251): every register to its reset value in one step, the engine to IDLE, the buffers
unspecified again; no transport primitive. What is not the block's (the wire, the host's moves, the bus answer, the
parameters) is kept. -/
def resetNow (s : State) : State :=
  { State.reset with
    line := s.line, bus := s.bus, moves := s.moves, params := s.params, epoch := s.epoch + 1, draws := s.draws }

end Sys2Proof.Machine
end

