-- ==== Sys2Proof/Machine/Operands.lean ====
section
/-! DEFINITION. The operands a command reads and every value derived from them (spec/30_encoding.md R84): the payload, the
Protocol A checksum, digits, escaping and frame (spec/40_protocol_a_tx.md R100 to R108), the received digit
(spec/41_protocol_a_rx.md R157), and the Protocol B element, body, CRC, stuffing and frame (spec/42_protocol_b.md R180 to
R191). -/

namespace Sys2Proof.Machine

/-! ### Control bytes (R90, R94) -/

/-- SYN (R90). -/
def SYN : Byte := 0x16
/-- SOH (R90). -/
def SOH : Byte := 0x01
/-- ACK (R90). -/
def ACK : Byte := 0x06
/-- DLE (R90). -/
def DLE : Byte := 0x10
/-- STX (R90). -/
def STX : Byte := 0x02
/-- ETX (R90). -/
def ETX : Byte := 0x03
/-- Protocol B start marker (R94). -/
def START : Byte := 0xFE
/-- Protocol B stop marker (R94). -/
def STOP : Byte := 0xFF
/-- Protocol B escape marker (R94). -/
def ESC : Byte := 0xFD

/-! ### Shared -/

/-- Bits [15:8] of a 16-bit value, sent first (R57). -/
def hiByte (v : Half) : Byte := v.extractLsb' 8 8

/-- Bits [7:0] of a 16-bit value, sent second (R57). -/
def loByte (v : Half) : Byte := v.extractLsb' 0 8

/-- A list's length as a length byte. -/
def lenByte (d : List Byte) : Byte := BitVec.ofNat 8 d.length

/-- `TXBUF[0..LEN)`, the payload of TX_A and TX_B (R30, R35). -/
def State.payload (s : State) : List Byte := (List.range s.txlen.toNat).map s.txBuf

/-! ### Protocol A (R100 to R108) -/

/-- Add a byte to the 16-bit accumulator (R100, R155). -/
def addByte (acc : Half) (b : Byte) : Half := acc + b.setWidth 16

/-- The accumulator over type, length and data bytes (R100). -/
def bodySum (t n : Byte) (d : List Byte) : Half := d.foldl addByte (addByte (addByte 0 t) n)

/-- `csumA(t, d)` (R100). -/
def csumA (t : Byte) (d : List Byte) : Byte := loByte (bodySum t (lenByte d) d)

/-- `hexA(v)` (R102), the formula as written. -/
def hexA (v : BitVec 4) : Byte :=
  if v.toNat < 10 then 0x30 + v.setWidth 8 else 0x41 + (v.setWidth 8 - 10) % 10

/-- `csumDigits(c)` (R103). -/
def csumDigits (c : Byte) : List Byte := [hexA (c.extractLsb' 4 4), hexA (c.extractLsb' 0 4)]

/-- The wire form of one data byte (R104). -/
def escByteA (b : Byte) : List Byte := if b = DLE then [DLE, DLE] else [b]

/-- `escA(d)` (R104). -/
def escA (d : List Byte) : List Byte := d.flatMap escByteA

/-- The sequence digit `0x30 + SEQ` (R106). -/
def seqDigit (q : BitVec 4) : Byte := 0x30 + q.setWidth 8

/-- The post-amble of a no-reply frame (R108). -/
def postamble (a : Half) : List Byte :=
  if a.getLsbD 15 then List.replicate Config.postambleLen ETX else []

/-- `frameA(a, s, t, d)` (R107). -/
def frameA (a : Half) (q : BitVec 4) (t : Byte) (d : List Byte) : List Byte :=
  [SYN, SYN, SOH, hiByte a, loByte a, seqDigit q, DLE, STX, t, lenByte d] ++ escA d ++ [DLE, ETX] ++
    csumDigits (csumA t d) ++ [SYN] ++ postamble a

/-- The acknowledge frame (R92). -/
def ackFrame : List Byte := [SYN, SYN, ACK, SYN, 0x00]

/-- `hexval(b)` (R157); none is INVALID. -/
def hexval (b : Byte) : Option (BitVec 4) :=
  if 0x30 ≤ b.toNat ∧ b.toNat ≤ 0x39 then some ((b - 0x30).setWidth 4)
  else if 0x41 ≤ b.toNat ∧ b.toNat ≤ 0x46 then some ((b - 0x37).setWidth 4)
  else none

/-- `(SEQ + 1) mod 10` (R109). -/
def nextSeq (q : BitVec 4) : BitVec 4 := BitVec.ofNat 4 ((q.toNat + 1) % Config.seqMod)

/-! ### Protocol B (R180 to R191) -/

/-- One bit of the CRC update (R180). -/
def crcShift (reflect : Bool) (c : Half) : Half :=
  if reflect then
    if c.getLsbD 0 then (c >>> 1) ^^^ Config.crcPolyReversed else c >>> 1
  else
    if c.getLsbD 15 then (c <<< 1) ^^^ Config.crcPoly else c <<< 1

/-- `k` bits of the CRC update. -/
def crcShifts (reflect : Bool) : Nat → Half → Half
  | 0, c => c
  | k + 1, c => crcShifts reflect k (crcShift reflect c)

/-- One byte of the CRC update (R180). -/
def crcByte (reflect : Bool) (c : Half) (b : Byte) : Half :=
  crcShifts reflect 8 (c ^^^ if reflect then b.setWidth 16 else b.setWidth 16 <<< 8)

/-- `crc16B(xs)` (R180), for either value of `P_CRC_B_REFLECT` (R181). -/
def crc16B (reflect : Bool) (xs : List Byte) : Half :=
  xs.foldl (crcByte reflect) Config.crcSeed ^^^ Config.crcXorOut

/-- The members of `P_GLOBAL_MEC` (R185). -/
def globalCodes (g : GlobalMec) : List Byte :=
  [g.clockSet, g.dateTimeEnable, g.activeDatasetSelect, g.rdsOnOff, g.siteAddressSet, g.encoderAddressSet,
    g.commModeSet]

/-- `m in P_GLOBAL_MEC` (R185). -/
def isGlobalMec (p : Params) (m : Byte) : Bool := (globalCodes p.globalMec).contains m

/-- `elemB(m, ds, ps, na, d)` (R184 to R186); `glob` says whether `m` is a global MEC. -/
def elemB (glob : Bool) (m ds ps : Byte) (na : Bool) (d : List Byte) : List Byte :=
  [m] ++ (if glob then [] else [ds, ps]) ++ (if na then [] else [lenByte d]) ++ d

/-- `mfl` of an element with `n` data bytes (R187), before it is cut to a byte. -/
def mflOf (glob na : Bool) (n : Nat) : Nat :=
  1 + (if glob then 0 else 2) + (if na then 0 else 1) + n

/-- `bodyB(a, m, ds, ps, na, d)` (R184). -/
def bodyB (glob : Bool) (a : Half) (m ds ps : Byte) (na : Bool) (d : List Byte) : List Byte :=
  [hiByte a, loByte a, 0x00, lenByte (elemB glob m ds ps na d)] ++ elemB glob m ds ps na d

/-- `esc(x)` (R189). -/
def escB (x : Byte) : List Byte :=
  if x = ESC then [ESC, 0x00] else if x = START then [ESC, 0x01] else if x = STOP then [ESC, 0x02] else [x]

/-- `stuffB(xs)` (R189). -/
def stuffB (xs : List Byte) : List Byte := xs.flatMap escB

/-- The body with its CRC, high byte first (R183). -/
def withCrc (reflect : Bool) (body : List Byte) : List Byte :=
  body ++ [hiByte (crc16B reflect body), loByte (crc16B reflect body)]

/-- The wire frame of a body (R190). -/
def wrapB (reflect : Bool) (body : List Byte) : List Byte :=
  [START] ++ stuffB (withCrc reflect body) ++ [STOP]

/-- The byte an escape code stands for (R191); none is an unknown code. -/
def unescB (code : Byte) : Option Byte :=
  if code = 0x00 then some ESC else if code = 0x01 then some START else if code = 0x02 then some STOP else none

/-- `destuffB(ys)` (R191); none is INVALID. No command applies it (R201). -/
def destuffB : List Byte → Option (List Byte)
  | [] => some []
  | [y] => if y = START ∨ y = STOP ∨ y = ESC then none else some [y]
  | y :: z :: ys =>
    if y = START ∨ y = STOP then none
    else if y = ESC then
      match unescB z with
      | some x => (destuffB ys).map (x :: ·)
      | none => none
    else (destuffB (z :: ys)).map (y :: ·)

/-! ### The frames of the registers' present values (R63) -/

/-- The frame TX_A builds (R110). -/
def State.frameTxA (s : State) : List Byte := frameA s.addr s.seq s.txctl.mtype s.payload

/-- Whether TX_B's MEC is global (R185). -/
def State.globalTxB (s : State) : Bool := isGlobalMec s.params s.txctl.mtype

/-- The MFL of TX_B (R187, R200). -/
def State.mflTxB (s : State) : Nat := mflOf s.globalTxB s.txctl.melNa s.txlen.toNat

/-- The body TX_B builds (R200). -/
def State.bodyTxB (s : State) : List Byte :=
  bodyB s.globalTxB s.addr s.txctl.mtype s.txctl.dsn s.txctl.psn s.txctl.melNa s.payload

/-- The CRC of TX_B's body (R200). -/
def State.crcTxB (s : State) : Half := crc16B s.params.crcBReflect s.bodyTxB

/-- The frame TX_B builds (R200). -/
def State.frameTxB (s : State) : List Byte := wrapB s.params.crcBReflect s.bodyTxB

end Sys2Proof.Machine
end

