-- ==== Sys2Proof/Machine/ProtocolA.lean ====
section
/-! DEFINITION. The meanings of TX_A, ACK_A and SEQ_RESET (spec/40_protocol_a_tx.md R110 to R112): the accepting step, atomic
with the CMD write (R80). A CMD write while BUSY = 1 is dropped and sets WBUSY (R60). -/

namespace Sys2Proof.Machine

/-- TX_A at acceptance with BUSY = 0 (R110). -/
def acceptTxA (s : State) : State :=
  if Config.aMaxLen < s.txlen.toNat then finish .invalidArgument s
  else if s.proto ≠ .a then finish .unsupported s
  else
    { start 0x01 .txASend s with
      txchk := (csumA s.txctl.mtype s.payload).setWidth 16, txl := s.frameTxA, k := 0 }

/-- TX_A (R110). -/
def execTxA (s : State) : Host.Outcome State Fault Refusal := .next (whileIdle acceptTxA s)

/-- ACK_A at acceptance with BUSY = 0 (R111). -/
def acceptAckA (s : State) : State :=
  if s.proto ≠ .a then finish .unsupported s
  else { start 0x03 .txAckSend s with txl := ackFrame, k := 0 }

/-- ACK_A (R111). -/
def execAckA (s : State) : Host.Outcome State Fault Refusal := .next (whileIdle acceptAckA s)

/-- SEQ_RESET at acceptance with BUSY = 0 (R112). -/
def acceptSeqReset (s : State) : State := finish .ok { s with seq := 0 }

/-- SEQ_RESET (R112). -/
def execSeqReset (s : State) : Host.Outcome State Fault Refusal := .next (whileIdle acceptSeqReset s)

end Sys2Proof.Machine
end

