-- ==== Sys2Proof/Machine/ProtocolB.lean ====
section
/-! DEFINITION. The meanings of TX_B and RX_B (spec/42_protocol_b.md R200, R201): the accepting step, atomic with the CMD write
(R80). A CMD write while BUSY = 1 is dropped and sets WBUSY (R60). -/

namespace Sys2Proof.Machine

/-- TX_B at acceptance with BUSY = 0 (R200). -/
def acceptTxB (s : State) : State :=
  if Config.bMaxMfl < s.mflTxB then finish .invalidArgument s
  else if s.proto ≠ .b then finish .unsupported s
  else { start 0x11 .txBSend s with txchk := s.crcTxB, txl := s.frameTxB, k := 0 }

/-- TX_B (R200). -/
def execTxB (s : State) : Host.Outcome State Fault Refusal := .next (whileIdle acceptTxB s)

/-- RX_B at acceptance with BUSY = 0 (R201). -/
def acceptRxB (s : State) : State := finish .unsupported s

/-- RX_B (R201). -/
def execRxB (s : State) : Host.Outcome State Fault Refusal := .next (whileIdle acceptRxB s)

end Sys2Proof.Machine
end

