-- ==== Sys2Proof/Machine/ReceiveA.lean ====
section
/-! DEFINITION. The meaning of RX_A (spec/41_protocol_a_rx.md R140) and the receive state machine it starts: one definition for
each state's rule (R143 to R161), each saying what the state does with the byte `b` that `Recv` returned. -/

namespace Sys2Proof.Machine

/-- RX_A at acceptance with BUSY = 0 (R140). -/
def acceptRxA (s : State) : State :=
  if s.nr then finish .unsupported s
  else if s.proto ≠ .a then finish .unsupported s
  else { start 0x02 .rxWaitSyn s with acc := 0, i := 0, n := 0 }

/-- RX_A (R140). -/
def execRxA (s : State) : Host.Outcome State Fault Refusal := .next (whileIdle acceptRxA s)

/-- The shape of the states that require one byte value: go on to `next`, or `viol(UNEXPECTED, b, 0)`. -/
def expectByte (want : Byte) (next : EngineState) (b : Byte) (s : State) : State :=
  if b = want then { s with st := next } else viol .unexpected b 0 s

/-- RX_WAIT_SYN (R143). -/
def rxWaitSyn (b : Byte) (s : State) : State := expectByte SYN .rxSkipExtraSyns b s

/-- RX_SKIP_EXTRA_SYNS, with the ACK check reported under code 3 (R144). -/
def rxSkipExtraSyns (b : Byte) (s : State) : State :=
  if b = SYN then { s with st := .rxSkipExtraSyns }
  else if b = ACK then { s with st := .rxExpectSynAfterAck }
  else rxFail .protocolViolation expectAckCode .unexpected b 0 s

/-- RX_EXPECT_SYN_AFTER_ACK (R145). -/
def rxExpectSynAfterAck (b : Byte) (s : State) : State := expectByte SYN .rxExpectEmptyOrFrame b s

/-- RX_EXPECT_EMPTY_OR_FRAME (R146). -/
def rxExpectEmptyOrFrame (b : Byte) (s : State) : State :=
  if b = 0x00 then { s with pend := .okAckOnly, st := .rxFinish }
  else if b = SYN then { s with st := .rxHdrSyn }
  else viol .unexpected b 0 s

/-- RX_HDR_SYN (R147). -/
def rxHdrSyn (b : Byte) (s : State) : State := expectByte SYN .rxHdrSoh b s

/-- RX_HDR_SOH (R148). -/
def rxHdrSoh (b : Byte) (s : State) : State := expectByte SOH .rxHdrAddrHi b s

/-- RX_HDR_ADDR_HI: `ra[15:8] <- b` (R149). -/
def rxHdrAddrHi (b : Byte) (s : State) : State :=
  { s with ra := b ++ loByte s.ra, st := .rxHdrAddrLo }

/-- RX_HDR_ADDR_LO: `ra[7:0] <- b` (R150). -/
def rxHdrAddrLo (b : Byte) (s : State) : State :=
  { s with ra := hiByte s.ra ++ b, st := .rxHdrSeq }

/-- RX_HDR_SEQ (R151). -/
def rxHdrSeq (b : Byte) (s : State) : State := { s with rs := b, st := .rxExpectDleStx }

/-- RX_EXPECT_DLE_STX (R152). -/
def rxExpectDleStx (b : Byte) (s : State) : State := expectByte DLE .rxExpectStx b s

/-- RX_EXPECT_STX (R152). -/
def rxExpectStx (b : Byte) (s : State) : State := expectByte STX .rxReadType b s

/-- RX_READ_TYPE (R153). -/
def rxReadType (b : Byte) (s : State) : State :=
  { s with rt := b, acc := b.setWidth 16, st := .rxReadLen }

/-- RX_READ_LEN (R153). -/
def rxReadLen (b : Byte) (s : State) : State :=
  if Config.aMaxLen < b.toNat then viol .length b 0 s
  else
    { s with
      n := b, acc := addByte s.acc b, i := 0, st := if b = 0 then .rxExpectDleEtx else .rxReadData }

/-- `store(b)` (R155). -/
def storeData (b : Byte) (s : State) : State :=
  { State.setRxBuf s.i.toNat b s with
    acc := addByte s.acc b
    i := s.i + 1
    st := if (s.i + 1).toNat = s.n.toNat then .rxExpectDleEtx else .rxReadData }

/-- RX_READ_DATA (R154). -/
def rxReadData (b : Byte) (s : State) : State :=
  if b = DLE then { s with st := .rxReadDataEsc } else storeData b s

/-- RX_READ_DATA_ESC (R156). -/
def rxReadDataEsc (b : Byte) (s : State) : State := storeData b s

/-- RX_EXPECT_DLE_ETX (R158). -/
def rxExpectDleEtx (b : Byte) (s : State) : State := expectByte DLE .rxExpectEtx b s

/-- RX_EXPECT_ETX (R158). -/
def rxExpectEtx (b : Byte) (s : State) : State := expectByte ETX .rxReadCsumHi b s

/-- RX_READ_CSUM_HI (R159). -/
def rxReadCsumHi (b : Byte) (s : State) : State :=
  match hexval b with
  | some v => { s with hi := v, st := .rxReadCsumLo }
  | none => viol .badDigit b 0 s

/-- `rc <- hi * 16 + v` (R160). -/
def csumOfDigits (hi v : BitVec 4) : Byte := hi.setWidth 8 * 16 + v.setWidth 8

/-- RX_READ_CSUM_LO: the checksum is compared as soon as its second digit is read (R160). -/
def rxReadCsumLo (b : Byte) (s : State) : State :=
  match hexval b with
  | some v =>
    let s := { s with rc := csumOfDigits s.hi v }
    if s.rc ≠ loByte s.acc then viol .csumMismatch s.rc (loByte s.acc) s
    else { s with st := .rxExpectTrailingSyn }
  | none => viol .badDigit b 0 s

/-- RX_EXPECT_TRAILING_SYN (R161). -/
def rxExpectTrailingSyn (b : Byte) (s : State) : State :=
  if b = SYN then { s with pend := .ok, st := .rxFinish } else viol .unexpected b 0 s

/-- The byte a receiving state consumes (R141); the other states consume none. -/
def rxByte (b : Byte) (s : State) : State :=
  match s.st with
  | .rxWaitSyn => rxWaitSyn b s
  | .rxSkipExtraSyns => rxSkipExtraSyns b s
  | .rxExpectSynAfterAck => rxExpectSynAfterAck b s
  | .rxExpectEmptyOrFrame => rxExpectEmptyOrFrame b s
  | .rxHdrSyn => rxHdrSyn b s
  | .rxHdrSoh => rxHdrSoh b s
  | .rxHdrAddrHi => rxHdrAddrHi b s
  | .rxHdrAddrLo => rxHdrAddrLo b s
  | .rxHdrSeq => rxHdrSeq b s
  | .rxExpectDleStx => rxExpectDleStx b s
  | .rxExpectStx => rxExpectStx b s
  | .rxReadType => rxReadType b s
  | .rxReadLen => rxReadLen b s
  | .rxReadData => rxReadData b s
  | .rxReadDataEsc => rxReadDataEsc b s
  | .rxExpectDleEtx => rxExpectDleEtx b s
  | .rxExpectEtx => rxExpectEtx b s
  | .rxReadCsumHi => rxReadCsumHi b s
  | .rxReadCsumLo => rxReadCsumLo b s
  | .rxExpectTrailingSyn => rxExpectTrailingSyn b s
  | .idle | .rxFinish | .txASend | .txAckSend | .txBSend => s

/-- One step of a receiving state (R141): one `Recv`, then its verdict. -/
def rxStep (s : State) : State :=
  match s.recv with
  | (.rtimeout, t) => rxFail .timeout t.st.code .timeout 0 0 t
  | (.rioerr, t) => rxFail .ioFailure t.st.code .io 0 0 t
  | (.rbyte b, t) => rxByte b t

/-- `ADDR[15] <- ra[15]`, ADDR[14:0] unchanged (R163). -/
def mergeNoReply (addr ra : Half) : Half :=
  BitVec.ofBool (ra.getLsbD 15) ++ addr.extractLsb' 0 15

/-- What RX_FINISH publishes for its pending result (R162). -/
def publish (s : State) : State :=
  match s.pend with
  | .ok =>
    { s with
      rxhdr := { addr := s.ra, seq := s.rs, mtype := s.rt }
      rxinfo := { len := s.n, csum := s.rc }
      addr := mergeNoReply s.addr s.ra }
  | .okAckOnly => { s with rxinfo := { len := 0, csum := 0 } }
  | .none | .protocolViolation | .timeout | .unsupported | .invalidArgument | .ioFailure => s

/-- One RX_FINISH step (R162): one `Flush`, the results of a good reply, `finish(pend)`. -/
def rxFinishStep (s : State) : State := finish s.pend (publish s.flush)

end Sys2Proof.Machine
end

