-- ==== Sys2Proof/Machine/Dispatch.lean ====
section
/-! DEFINITION. The meaning of each command (spec/30_encoding.md R81): one arm per constructor of Instr. -/

namespace Sys2Proof.Machine

def exec (i : Instr) (s : State) : Host.Outcome State Fault Refusal :=
  match i with
  | .txA => Sys2Proof.Machine.execTxA s
  | .rxA => Sys2Proof.Machine.execRxA s
  | .ackA => Sys2Proof.Machine.execAckA s
  | .seqReset => Sys2Proof.Machine.execSeqReset s
  | .txB => Sys2Proof.Machine.execTxB s
  | .rxB => Sys2Proof.Machine.execRxB s

end Sys2Proof.Machine
end

