-- ==== Sys2Proof/Machine/Bus.lean ====
section
/-! DEFINITION. What one host access does (spec/20_memory.md R52 to R60; spec/30_encoding.md R80 to R85): a read only answers; a
write to CMD issues the command its OP names; any other write stores its value or is ignored; a bus error has no effect. -/

namespace Sys2Proof.Machine

/-- A CMD write with a reserved OP (R82, R225): UNSUPPORTED at once, nothing else; dropped while BUSY = 1 (R60). -/
def execReserved (s : State) : Host.Outcome State Fault Refusal := .next (whileIdle (finish .unsupported) s)

/-- A CMD write of `v` (R21, R80, R82). -/
def issue (v : Word) (s : State) : Host.Outcome State Fault Refusal :=
  match decode v with
  | .ok i => exec i s
  | .error _ => execReserved s

/-- `MemRead(a, n)` by the host: no state changes but what the host was answered (R54, R59). -/
def hostRead (a : Offset) (w : Width) (s : State) : State := s.answer (memRead s a w)

/-- `MemWrite(a, n, v)` by the host (R52 to R60). -/
def hostWrite (a : Offset) (w : Width) (v : Word) (s : State) : Host.Outcome State Fault Refusal :=
  match accessTarget a w with
  | some (.reg .cmd) => issue v (s.answer (writeAnswer false))
  | some t => .next (writeTarget v t (s.answer (writeAnswer false)))
  | none => .next (s.answer (writeAnswer true))

/-- One host access. -/
def hostAccess (x : Access) (s : State) : Host.Outcome State Fault Refusal :=
  match x with
  | .read a w => .next (hostRead a w s)
  | .write a w v => hostWrite a w v s

/-- `POLL` (R87): one read of STATUS; while bit 0 of the value is 1 the host polls again, after one engine step (log entry
5). -/
def poll (s : State) : State :=
  let t := hostRead Reg.status.offset .w32 s
  if t.bus.data.getLsbD 0 then { t with moves := .engine :: .poll :: t.moves } else t

/-- The state with its next move taken off the list. -/
def State.dropMove (s : State) : State := { s with moves := s.moves.tail }

/-- Place a host program (R86) before the moves to come: the host's operations from outside (log entry 6). -/
def State.withProgram (ops : List HostOp) (s : State) : State :=
  { s with moves := ops.flatMap HostOp.expand ++ s.moves }

end Sys2Proof.Machine
end

