-- ==== Sys2Proof/Machine/Engine.lean ====
section
/-! DEFINITION. One engine step (spec/10_state.md R39): the transmit step shared by TX_A, ACK_A and TX_B
(spec/40_protocol_a_tx.md R114), the receive step and RX_FINISH (spec/41_protocol_a_rx.md R141 to R162). The engine takes no
step in IDLE. -/

namespace Sys2Proof.Machine

/-- The end of a transmit command (R114): SEQ steps for TX_A only (R109). -/
def txDone (s : State) : State :=
  finish .ok (if s.op = 0x01 then { s with seq := nextSeq s.seq } else s)

/-- What a transmit step does with `Send`'s verdict on the byte `b` (R114). -/
def txVerdict (b : Byte) (r : SendResult) (s : State) : State :=
  match r with
  | .wok =>
    let s := { s with k := s.k + 1 }
    if s.k.toNat = s.txl.length then txDone s else s
  | .wtimeout => raise .timeout .timeout b s
  | .wioerr => raise .ioFailure .io b s

/-- One step of a transmit state (R114): one `Send` of `txl[k]`. -/
def txStep (s : State) : Host.Outcome State Fault Refusal :=
  match s.txl[s.k.toNat]? with
  | some b => .next (txVerdict b (s.send b).1 (s.send b).2)
  | none => .fault .noByteToSend

/-- One engine step (R39). -/
def engineStep (s : State) : Host.Outcome State Fault Refusal :=
  match s.st with
  | .idle => .next s
  | .txASend | .txAckSend | .txBSend => txStep s
  | .rxFinish => .next (rxFinishStep s)
  | .rxWaitSyn | .rxSkipExtraSyns | .rxExpectSynAfterAck | .rxExpectEmptyOrFrame | .rxHdrSyn | .rxHdrSoh
  | .rxHdrAddrHi | .rxHdrAddrLo | .rxHdrSeq | .rxExpectDleStx | .rxExpectStx | .rxReadType | .rxReadLen
  | .rxReadData | .rxReadDataEsc | .rxExpectDleEtx | .rxExpectEtx | .rxReadCsumHi | .rxReadCsumLo
  | .rxExpectTrailingSyn => .next (rxStep s)

end Sys2Proof.Machine
end

