-- ==== Sys2Proof/Machine/Step.lean ====
section
/-! DEFINITION. One step of the whole: the next move of State's list, made by its agent (spec/00_scope.md R18); with no move
listed the engine steps, which in IDLE changes nothing (spec/10_state.md R39). -/

namespace Sys2Proof.Machine

/-- One step. -/
def step (s : State) : Host.Outcome State Fault Refusal :=
  match s.moves with
  | [] => engineStep s
  | .engine :: _ => engineStep s.dropMove
  | .host x :: _ => hostAccess x s.dropMove
  | .poll :: _ => .next (poll s.dropMove)
  | .arrive b :: _ => .next (State.arrive b s.dropMove)
  | .reset :: _ => .next (resetNow s.dropMove)

/-- Place a CMD write of the table word as the very next move: the block's form of storing an instruction where the next
step fetches it (log entry 6). -/
def State.withFetchWord (s : State) (nbits w : Nat) : State :=
  { s with moves := busW Reg.cmd.offset (BitVec.ofNat 32 (w % 2 ^ nbits)) :: s.moves }

end Sys2Proof.Machine
end

