-- ==== Sys2Proof/Safety.lean ====
section
/-! DEFINITION. What claims mean by a legal state and a safe run: the invariant `State.Inv` that every state a run reaches
meets, part by part from the spec's own whole-machine statements, and the run of a number of steps. -/

namespace Sys2Proof.Machine

/-- The data bytes of the reply decoded so far, `RXBUF[0..i)` (R155). -/
def State.decoded (s : State) : List Byte := (List.range s.i.toNat).map s.rxBuf

/-- The longest wire frame: `1 + 2 * (4 + 254 + 2) + 1` bytes (R41, R190). -/
def maxFrameLen : Nat := 522

/-- A legal state. The fields name the rule each part comes from. -/
structure State.Inv (s : State) : Prop where
  /-- The buffers keep their canonical form. -/
  memWf : s.mem.wf = true
  /-- R36: only `RXBUF[0..40)` is ever written. -/
  rxBufTail : ∀ j, Config.aMaxLen ≤ j → j < Config.bufSize → s.mem.get? (rxBase + j) = none
  /-- R28, R113: SEQ holds 0 to 9. -/
  seqLegal : s.seq.toNat ≤ 9
  /-- R22: BUSY = 1 while the engine state is not IDLE. -/
  busyIff : s.busy = true ↔ s.st ≠ .idle
  /-- R23, R255: RESULT is NONE while a command runs. -/
  busyResult : s.busy = true → s.result = .none
  /-- R41: `op` is the opcode of the running command. -/
  opRunning : s.busy = true → s.op = s.st.runningOp
  /-- R41, R114: in a transmit state there is a byte `txl[k]` to send, and the frame is no longer than R41 says. -/
  sendIndex : s.st.sending = true → s.k.toNat < s.txl.length ∧ s.txl.length ≤ maxFrameLen
  /-- R155: fewer than `n` data bytes are decoded while the data region is read, and `n` is at most 40 (R153). -/
  dataCount : s.st.inData = true → s.i.toNat < s.n.toNat ∧ s.n.toNat ≤ Config.aMaxLen
  /-- R155: the trailer is read after exactly `n` decoded bytes. -/
  trailerCount : s.st.inTrailer = true ∨ (s.st = .rxFinish ∧ s.pend = .ok) →
    s.i.toNat = s.n.toNat ∧ s.n.toNat ≤ Config.aMaxLen
  /-- R153: after the type byte the accumulator holds the type. -/
  sumType : s.st = .rxReadLen → s.acc = addByte 0 s.rt
  /-- R153, R155, R160: the accumulator sums the type, the length and the decoded data bytes. -/
  sumData : s.st.inData = true ∨ s.st.inTrailer = true ∨ (s.st = .rxFinish ∧ s.pend = .ok) →
    s.acc = bodySum s.rt s.n s.decoded
  /-- R160: past the checksum digits the received checksum equals the computed one. -/
  sumMatches : s.st = .rxExpectTrailingSyn ∨ (s.st = .rxFinish ∧ s.pend = .ok) → s.rc = loByte s.acc
  /-- R222: RX_FINISH reports one of RX_A's results. -/
  pendLegal : s.st = .rxFinish → s.pend = .ok ∨ s.pend = .okAckOnly ∨ s.pend.isFailure = true
  /-- R228: ERRINFO is 0 from acceptance until a failure is met. -/
  errClear : s.busy = true → (s.st = .rxFinish → s.pend.isFailure = false) → s.errinfo = ErrInfo.zero
  /-- R221, R228: RX_FINISH's failure is the one ERRINFO describes. -/
  errPending : s.st = .rxFinish → s.pend.isFailure = true → s.errinfo.kind.result = s.pend
  /-- R221, R228: a reported failure is the one ERRINFO describes. -/
  errReported : s.result.isFailure = true → s.errinfo.kind.result = s.result
  /-- R33: RX_LEN is 0 to 40. -/
  rxLenLegal : s.rxinfo.len.toNat ≤ Config.aMaxLen

/-- The offsets whose host write BUSY = 1 blocks (R24, R60): CMD, CFG, ADDR, TXCTL, TXLEN and the TXBUF words. -/
def BlockedOffset (a : Offset) : Prop :=
  a = 0x000 ∨ a = 0x008 ∨ a = 0x00C ∨ a = 0x014 ∨ a = 0x018 ∨ ∃ w : Fin 64, a = txWordOffset w.val

/-- The offsets a host write never changes (R54): the read-only registers and the RXBUF words. -/
def ReadOnlyOffset (a : Offset) : Prop :=
  a = 0x010 ∨ a = 0x01C ∨ a = 0x020 ∨ a = 0x024 ∨ a = 0x028 ∨ ∃ w : Fin 64, a = rxWordOffset w.val

/-- The engine makes the next move. -/
def State.engineMoves (s : State) : Prop := s.moves = [] ∨ ∃ ms, s.moves = .engine :: ms

/-- The state with the hidden working registers of R41 put to their reset values: what they hold is not seen in it. -/
def State.visible (s : State) : State :=
  { s with
    txl := [], k := 0, op := 0, acc := 0, n := 0, i := 0, hi := 0, ra := 0, rs := 0, rt := 0, rc := 0, pend := .none }

/-- What two runs have in common as far as the working registers do not show. -/
def visibleOutcome : Host.Outcome State Fault Refusal → Host.Outcome State Fault Refusal
  | .next t => .next t.visible
  | .fault r => .fault r
  | .refused r => .refused r

/-- A run of `m` steps. -/
def runSteps (m : Nat) (s : State) : Host.Outcome State Fault Refusal := Host.Core.run Sys2Proof.core m s

/-- A run of `m` steps is safe: it stops neither by a fault nor by a refusal. -/
def SafeRun (m : Nat) (s : State) : Prop := ∃ t, runSteps m s = .next t

end Sys2Proof.Machine
end

