-- ==== Sys2Proof/Certificates/Slice0/Obligations.lean ====
section
/-! DEFINITION. The statements about the block, from the numbered rules of spec/. -/

open Sys2Proof Sys2Proof.Machine

/-! ### Reset -/

/-- R42: after reset every register reads 0, the engine is in IDLE and no buffer byte has been written. That an unwritten
byte is one not listed is the model's form (log entry 3). -/
def Obligations.RegistersReadZeroAfterReset : Prop :=
  (∀ r, readReg State.reset r = 0) ∧ State.reset.st = .idle ∧ ∀ a, State.reset.mem.get? a = none

/-- R250: the reset input puts every register at its reset value and the engine in IDLE in one step, whatever runs, leaves
the buffers unspecified, and performs no transport primitive. That the wire, its answers and the moves to come are kept is
the model's reading (log entry 9). -/
def Obligations.ResetInputResetsInOneStep : Prop :=
  ∀ (s : State) (ms : List Move), s.moves = .reset :: ms →
    ∃ t, step s = .next t ∧ (∀ r, readReg t r = 0) ∧ t.st = .idle ∧ (∀ a, t.mem.get? a = none) ∧
      t.line = s.line ∧ t.draws = s.draws ∧ t.moves = ms

/-! ### The invariant -/

/-- The reset state is a legal state. -/
def Obligations.ResetStateIsLegal : Prop := State.reset.Inv

/-- Every step keeps every part of the invariant: canonical buffers (R36), SEQ 0 to 9 (R113), BUSY and the engine state
(R22), RESULT NONE while busy (R23), the running opcode (R41), the frame index (R114), the data count (R155), the running
checksum (R160), the error capture (R228), RX_LEN (R33). -/
def Obligations.StepKeepsLegalState : Prop :=
  ∀ s t : State, s.Inv → step s = .next t → t.Inv

/-- R85, R226: nothing traps or halts the block: a run of any length from a legal state never stops. The one fault it rules
out is the model's own (log entry 8). -/
def Obligations.LegalRunNeverStops : Prop :=
  ∀ (m : Nat) (s : State), s.Inv → ∃ t, runSteps m s = .next t ∧ t.Inv

/-! ### Decoding and issuing -/

/-- R80: a CMD write whose value decodes to a command is that command's meaning, after the move is taken off the list and
the host is answered `err = 0`. R39: an engine move, or a step with no move listed, is one engine step, and in IDLE that
changes nothing. R65: a byte that arrives is held after those held before and changes nothing else. The list of moves and
the recorded answer, whose data is 0 for a write, are the model's (log entries 5, 6, 7), and so is the held input as data
(log entry 4). -/
def Obligations.StepMakesTheNextMove : Prop :=
  (∀ (s : State) (ms : List Move) (v : Word) (i : Instr),
    s.moves = .host (.write 0x000 .w32 v) :: ms → decode v = .ok i →
    step s = exec i { s with moves := ms, bus := { data := 0, err := false } }) ∧
  (∀ s : State, s.moves = [] → step s = engineStep s) ∧
  (∀ (s : State) (ms : List Move), s.moves = .engine :: ms → step s = engineStep { s with moves := ms }) ∧
  (∀ s : State, s.st = .idle → engineStep s = .next s) ∧
  ∀ (s : State) (ms : List Move) (b : Byte), s.moves = .arrive b :: ms →
    step s = .next { s with moves := ms, line := { s.line with held := s.line.held ++ [b] } }

/-- R82, R225: a reserved OP completes at once with UNSUPPORTED; nothing else changes and BUSY is not set. The recorded
answer's data 0 is the model's (log entry 7). -/
def Obligations.ReservedOpcodeIsUnsupported : Prop :=
  ∀ (s : State) (ms : List Move) (v : Word),
    s.moves = .host (.write 0x000 .w32 v) :: ms →
    v.extractLsb' 0 8 ∉ ([0x01, 0x02, 0x03, 0x04, 0x11, 0x12] : List Byte) → s.busy = false → s.st = .idle →
    step s = .next { s with moves := ms, bus := { data := 0, err := false }, result := .unsupported }

/-- R83: two CMD words with the same OP decode alike and do the same. -/
def Obligations.CommandBitsAboveOpIgnored : Prop :=
  ∀ v w : Word, v.extractLsb' 0 8 = w.extractLsb' 0 8 →
    decode v = decode w ∧
    ∀ (s : State) (ms : List Move),
      step { s with moves := .host (.write 0x000 .w32 v) :: ms } =
        step { s with moves := .host (.write 0x000 .w32 w) :: ms }

/-- Decoding an encoded command gives it back; a word that decodes is the command's encoding in its low byte. The words of
R81's table, written out, decode to its commands. -/
def Obligations.CommandWordsRoundTrip : Prop :=
  (∀ i : Instr, i.wf = true → decode (encode i) = .ok i) ∧
  (∀ (v : Word) (i : Instr), decode v = .ok i → encode i = v &&& 0x000000FF) ∧
  decode 0x00000001 = .ok .txA ∧ decode 0x00000002 = .ok .rxA ∧ decode 0x00000003 = .ok .ackA ∧
  decode 0x00000004 = .ok .seqReset ∧ decode 0x00000011 = .ok .txB ∧ decode 0x00000012 = .ok .rxB ∧
  decode 0xFFFFFF04 = .ok .seqReset ∧ decode 0x00000000 = .error (.reservedOp 0x00) ∧
  decode 0x000000FF = .error (.reservedOp 0xFF)

/-- R51, R52, R53: an offset names something exactly when it is a multiple of 4 in a mapped row, and the register offsets and
buffer word offsets name what R51 and R56 say, each from one offset only. -/
def Obligations.WindowMapIsExact : Prop :=
  (∀ r : Reg, Target.ofOffset r.offset = some (.reg r)) ∧
  (∀ w : Fin 64, Target.ofOffset (txWordOffset w.val) = some (.txWord w)) ∧
  (∀ w : Fin 64, Target.ofOffset (rxWordOffset w.val) = some (.rxWord w)) ∧
  (∀ a b : Offset, Target.ofOffset a = Target.ofOffset b → Target.ofOffset a ≠ none → a = b) ∧
  ∀ a : Offset, Target.ofOffset a ≠ none ↔
    a.toNat % 4 = 0 ∧ (a.toNat ≤ 0x02B ∨ (0x100 ≤ a.toNat ∧ a.toNat ≤ 0x2FF))

/-! ### The host bus -/

/-- R52, R53: a narrow, misaligned or unmapped access returns data 0 and `err = 1` and changes no state of the block. The
recorded answer's data 0 for a write is the model's (log entry 7). -/
def Obligations.BusErrorChangesNothing : Prop :=
  ∀ (s : State) (ms : List Move) (a : Offset) (w : Width),
    (w ≠ .w32 ∨ a.toNat % 4 ≠ 0 ∨ (0x02B < a.toNat ∧ a.toNat < 0x100) ∨ 0x2FF < a.toNat) →
    (s.moves = .host (.read a w) :: ms → step s = .next { s with moves := ms, bus := { data := 0, err := true } }) ∧
    ∀ v : Word, s.moves = .host (.write a w v) :: ms →
      step s = .next { s with moves := ms, bus := { data := 0, err := true } }

/-- R54, R59: an aligned read of a mapped offset answers the register's or buffer word's value, CMD 0, with `err = 0`, busy
or not, and has no side effect. R87: POLL is such a read of STATUS, repeated while bit 0 of the value is 1, after one engine
step (the model's choice, log entry 5). -/
def Obligations.ReadsAnswerAndChangeNothing : Prop :=
  ∀ (s : State) (ms : List Move),
    (∀ r : Reg, s.moves = .host (.read r.offset .w32) :: ms →
      step s = .next { s with moves := ms, bus := { data := readReg s r, err := false } }) ∧
    (∀ w : Fin 64, s.moves = .host (.read (txWordOffset w.val) .w32) :: ms →
      step s = .next { s with moves := ms, bus := { data := s.wordAt (0x100 + 4 * w.val), err := false } }) ∧
    (∀ w : Fin 64, s.moves = .host (.read (rxWordOffset w.val) .w32) :: ms →
      step s = .next { s with moves := ms, bus := { data := s.wordAt (0x200 + 4 * w.val), err := false } }) ∧
    (s.moves = .poll :: ms →
      step s = .next { s with
        bus := { data := readReg s .status, err := false }
        moves := if s.busy then .engine :: .poll :: ms else ms }) ∧
    readReg s .cmd = 0

/-- R20, R22 to R34: each field of a register stands at the bits R20 gives it. R220, R221, R38: the numbers of the results, of
the failure kinds and of the engine states. -/
def Obligations.RegisterFieldsAtTheirBits : Prop :=
  ∀ s : State,
    ((readReg s .status).getLsbD 0 = s.busy ∧ (readReg s .status).extractLsb' 4 4 = s.result.code ∧
      (readReg s .status).getLsbD 8 = s.wbusy) ∧
    (readReg s .cfg).getLsbD 0 = (s.proto == .b) ∧
    (readReg s .addr).extractLsb' 0 16 = s.addr ∧
    (readReg s .seq).extractLsb' 0 4 = s.seq ∧
    ((readReg s .txctl).extractLsb' 0 8 = s.txctl.mtype ∧ (readReg s .txctl).extractLsb' 8 8 = s.txctl.dsn ∧
      (readReg s .txctl).extractLsb' 16 8 = s.txctl.psn ∧ (readReg s .txctl).getLsbD 24 = s.txctl.melNa) ∧
    (readReg s .txlen).extractLsb' 0 8 = s.txlen ∧
    (readReg s .txchk).extractLsb' 0 16 = s.txchk ∧
    ((readReg s .rxhdr).extractLsb' 0 16 = s.rxhdr.addr ∧ (readReg s .rxhdr).extractLsb' 16 8 = s.rxhdr.seq ∧
      (readReg s .rxhdr).extractLsb' 24 8 = s.rxhdr.mtype) ∧
    ((readReg s .rxinfo).extractLsb' 0 8 = s.rxinfo.len ∧ (readReg s .rxinfo).extractLsb' 8 8 = s.rxinfo.csum) ∧
    ((readReg s .errinfo).extractLsb' 0 5 = s.errinfo.state ∧
      (readReg s .errinfo).extractLsb' 5 3 = s.errinfo.kind.code ∧
      (readReg s .errinfo).extractLsb' 8 8 = s.errinfo.byte ∧
      (readReg s .errinfo).extractLsb' 16 8 = s.errinfo.computed) ∧
    ([.none, .ok, .okAckOnly, .protocolViolation, .timeout, .unsupported, .invalidArgument, .ioFailure].map Result.code =
      [0, 1, 2, 3, 4, 5, 6, 7]) ∧
    ([.none, .unexpected, .badDigit, .csumMismatch, .length, .timeout, .io].map Kind.code = [0, 1, 2, 3, 4, 5, 6]) ∧
    [.idle, .rxWaitSyn, .rxSkipExtraSyns, .rxExpectSynAfterAck, .rxExpectEmptyOrFrame, .rxHdrSyn, .rxHdrSoh, .rxHdrAddrHi,
        .rxHdrAddrLo, .rxHdrSeq, .rxExpectDleStx, .rxExpectStx, .rxReadType, .rxReadLen, .rxReadData, .rxReadDataEsc,
        .rxExpectDleEtx, .rxExpectEtx, .rxReadCsumHi, .rxReadCsumLo, .rxExpectTrailingSyn, .rxFinish, .txASend, .txAckSend,
        .txBSend].map EngineState.code =
      [0, 1, 2, 4, 5, 6, 7, 8, 9, 10, 11, 12, 13, 14, 15, 16, 17, 18, 19, 20, 21, 22, 24, 25, 26]

/-- R55: reserved bits read 0 in every register, and what is written to them is discarded: a write with BUSY = 0 leaves in
CFG, ADDR, TXCTL and TXLEN the written value's field bits, and no other register, no buffer byte and not the engine changes.
The recorded answer's data 0 for a write is the model's (log entry 7). -/
def Obligations.ReservedBitsReadZeroAndDiscardWrites : Prop :=
  (∀ s : State,
    readReg s .cmd = 0 ∧ readReg s .status &&& 0xFFFFFE0E = 0 ∧ readReg s .cfg &&& 0xFFFFFFFE = 0 ∧
    readReg s .addr &&& 0xFFFF0000 = 0 ∧ readReg s .seq &&& 0xFFFFFFF0 = 0 ∧ readReg s .txctl &&& 0xFE000000 = 0 ∧
    readReg s .txlen &&& 0xFFFFFF00 = 0 ∧ readReg s .txchk &&& 0xFFFF0000 = 0 ∧
    readReg s .rxinfo &&& 0xFFFF0000 = 0 ∧ readReg s .errinfo &&& 0xFF000000 = 0) ∧
  ∀ (s : State) (ms : List Move) (v : Word) (r : Reg) (mask : Word),
    (r, mask) ∈ ([(.cfg, 0x00000001), (.addr, 0x0000FFFF), (.txctl, 0x01FFFFFF), (.txlen, 0x000000FF)] :
      List (Reg × Word)) →
    s.moves = .host (.write r.offset .w32 v) :: ms → s.busy = false →
    ∃ t, step s = .next t ∧ readReg t r = v &&& mask ∧ (∀ r', r' ≠ r → readReg t r' = readReg s r') ∧
      (∀ a, t.byteAt a = s.byteAt a) ∧ t.st = s.st ∧ t.moves = ms ∧ t.line = s.line ∧
      t.bus = { data := 0, err := false }

/-- R60: while BUSY = 1 a write to CMD, CFG, ADDR, TXCTL, TXLEN or a TXBUF word only sets WBUSY, `err = 0`. R54: busy or not,
a write to a read-only register or an RXBUF word changes no state and returns `err = 0`; a write to STATUS changes only
WBUSY, cleared by bit 8 (R24); a read of a mapped offset answers the value it names. The recorded answer's data 0 for a
write is the model's (log entry 7). -/
def Obligations.WritesAreDroppedOrIgnored : Prop :=
  ∀ (s : State) (ms : List Move) (a : Offset) (v : Word),
    (s.moves = .host (.write a .w32 v) :: ms → BlockedOffset a → s.busy = true →
      step s = .next { s with moves := ms, bus := { data := 0, err := false }, wbusy := true }) ∧
    (s.moves = .host (.write a .w32 v) :: ms → ReadOnlyOffset a →
      step s = .next { s with moves := ms, bus := { data := 0, err := false } }) ∧
    (s.moves = .host (.write 0x004 .w32 v) :: ms →
      step s = .next { s with
        moves := ms, bus := { data := 0, err := false }, wbusy := if v.getLsbD 8 then false else s.wbusy }) ∧
    ∀ x : Target, s.moves = .host (.read a .w32) :: ms → Target.ofOffset a = some x →
      step s = .next { s with moves := ms, bus := { data := readTarget s x, err := false } }

/-- R24: WBUSY goes to 1 only by a dropped write while BUSY = 1, and to 0 only by a STATUS write with bit 8 = 1 or by
reset. -/
def Obligations.WbusyChangesOnlyAsSaid : Prop :=
  ∀ s t : State, step s = .next t → t.wbusy ≠ s.wbusy →
    (t.wbusy = true ∧ s.busy = true ∧
      ∃ a v ms, s.moves = .host (.write a .w32 v) :: ms ∧ BlockedOffset a) ∨
    (t.wbusy = false ∧
      ((∃ v ms, s.moves = .host (.write 0x004 .w32 v) :: ms ∧ v.getLsbD 8 = true) ∨
        ∃ ms, s.moves = .reset :: ms))

/-- R56: a write of a TXBUF word with BUSY = 0 stores its four bytes little-endian, reads back whole, and changes no other
buffer byte and no register; every buffer word reads as its four bytes, little-endian. The recorded answer's data 0 for a
write is the model's (log entry 7). -/
def Obligations.BufferWordsAreLittleEndian : Prop :=
  (∀ (s : State) (ms : List Move) (w : Fin 64) (v : Word),
    s.moves = .host (.write (txWordOffset w.val) .w32 v) :: ms → s.busy = false →
    ∃ t, step s = .next t ∧
      t.byteAt (0x100 + 4 * w.val) = v.extractLsb' 0 8 ∧ t.byteAt (0x100 + 4 * w.val + 1) = v.extractLsb' 8 8 ∧
      t.byteAt (0x100 + 4 * w.val + 2) = v.extractLsb' 16 8 ∧ t.byteAt (0x100 + 4 * w.val + 3) = v.extractLsb' 24 8 ∧
      readTarget t (.txWord w) = v ∧
      (∀ a, a < 0x100 + 4 * w.val ∨ 0x100 + 4 * w.val + 4 ≤ a → t.byteAt a = s.byteAt a) ∧
      t = { s with moves := ms, bus := { data := 0, err := false }, mem := t.mem }) ∧
  ∀ (s : State) (w : Fin 64),
    (readTarget s (.txWord w) =
      (s.txBuf (4 * w.val)).setWidth 32 ||| (s.txBuf (4 * w.val + 1)).setWidth 32 <<< 8 |||
        (s.txBuf (4 * w.val + 2)).setWidth 32 <<< 16 ||| (s.txBuf (4 * w.val + 3)).setWidth 32 <<< 24) ∧
    (readTarget s (.rxWord w) =
      (s.rxBuf (4 * w.val)).setWidth 32 ||| (s.rxBuf (4 * w.val + 1)).setWidth 32 <<< 8 |||
        (s.rxBuf (4 * w.val + 2)).setWidth 32 <<< 16 ||| (s.rxBuf (4 * w.val + 3)).setWidth 32 <<< 24)

/-- R86, R87: the bus accesses of LOADTX, from a state that is not busy, leave in TXBUF and TXLEN exactly the listed bytes as
the payload, 0x00 in the rest of the last word, every other buffer byte and register as before. The recorded answer's data 0
for a write is the model's (log entry 7). -/
def Obligations.LoadTxFillsTheBuffer : Prop :=
  ∀ (s : State) (bs : List Byte), s.busy = false → s.moves = [] → bs.length ≤ 255 →
    ∃ t, runSteps ((bs.length + 3) / 4 + 1) (s.withProgram [.loadTx bs]) = .next t ∧
      t.payload = bs ∧
      (∀ j, bs.length ≤ j → j < 4 * ((bs.length + 3) / 4) → t.txBuf j = 0x00) ∧
      (∀ a, a < 0x100 ∨ 0x100 + 4 * ((bs.length + 3) / 4) ≤ a → t.byteAt a = s.byteAt a) ∧
      t = { s with txlen := BitVec.ofNat 8 bs.length, mem := t.mem, bus := { data := 0, err := false } }

/-! ### Who writes what -/

/-- R28: SEQ stays 0 to 9 and changes only by the end of a TX_A (plus one mod 10, RESULT OK), by SEQ_RESET and by reset (both
to 0). -/
def Obligations.SeqChangesOnlyAsSaid : Prop :=
  ∀ s t : State, s.Inv → step s = .next t →
    t.seq.toNat ≤ 9 ∧
    (t.seq ≠ s.seq →
      (s.st = .txASend ∧ s.engineMoves ∧ t.st = .idle ∧ t.result = .ok ∧
        t.seq.toNat = (s.seq.toNat + 1) % 10) ∨
      (t.seq = 0 ∧ s.busy = false ∧
        ∃ v ms, s.moves = .host (.write 0x000 .w32 v) :: ms ∧ decode v = .ok .seqReset) ∨
      (t.seq = 0 ∧ ∃ ms, s.moves = .reset :: ms))

/-- R31: TXCHK changes only at the acceptance of a TX_A (the zero-extended checksum), at the acceptance of a TX_B (the CRC of
the body) and by reset. -/
def Obligations.TxchkChangesOnlyAtAcceptance : Prop :=
  ∀ s t : State, step s = .next t → t.txchk ≠ s.txchk →
    (s.busy = false ∧ t.st = .txASend ∧ t.txchk = (csumA s.txctl.mtype s.payload).setWidth 16 ∧
      ∃ v ms, s.moves = .host (.write 0x000 .w32 v) :: ms ∧ decode v = .ok .txA) ∨
    (s.busy = false ∧ t.st = .txBSend ∧ t.txchk = crc16B s.params.crcBReflect s.bodyTxB ∧
      ∃ v ms, s.moves = .host (.write 0x000 .w32 v) :: ms ∧ decode v = .ok .txB) ∨
    (t.txchk = 0 ∧ ∃ ms, s.moves = .reset :: ms)

/-- R32, R33: but for reset, RXHDR changes only in an RX_FINISH step that reports OK, RXINFO only in one that reports OK or
OK_ACK_ONLY, with the values R162 gives. -/
def Obligations.ReceiveRegistersChangeOnlyAtFinish : Prop :=
  ∀ s t : State, step s = .next t → (∀ ms, s.moves ≠ .reset :: ms) →
    (t.rxhdr ≠ s.rxhdr → s.st = .rxFinish ∧ s.engineMoves ∧ t.result = .ok ∧
      t.rxhdr = { addr := s.ra, seq := s.rs, mtype := s.rt }) ∧
    (t.rxinfo ≠ s.rxinfo → s.st = .rxFinish ∧ s.engineMoves ∧
      ((t.result = .ok ∧ t.rxinfo = { len := s.n, csum := s.rc }) ∨
        (t.result = .okAckOnly ∧ t.rxinfo = { len := 0, csum := 0 })))

/-- But for reset: ADDR changes only by a host write of ADDR with BUSY = 0 and by an RX_FINISH step that reports OK, which
changes bit 15 alone (R26, R163); CFG, TXCTL and TXLEN only by a host write of the register with BUSY = 0 (R25, R29, R30,
R59, R60). Each then holds the written value's field bits. -/
def Obligations.HostRegistersChangeOnlyAsSaid : Prop :=
  ∀ s t : State, step s = .next t → (∀ ms, s.moves ≠ .reset :: ms) →
    (t.addr ≠ s.addr →
      (s.busy = false ∧ ∃ v ms, s.moves = .host (.write 0x00C .w32 v) :: ms ∧ t.addr = v.extractLsb' 0 16) ∨
      (s.st = .rxFinish ∧ s.engineMoves ∧ t.result = .ok ∧ t.addr.getLsbD 15 = s.ra.getLsbD 15 ∧
        t.addr.extractLsb' 0 15 = s.addr.extractLsb' 0 15)) ∧
    (t.proto ≠ s.proto → s.busy = false ∧ ∃ v ms, s.moves = .host (.write 0x008 .w32 v) :: ms ∧
      t.proto = if v.getLsbD 0 then .b else .a) ∧
    (t.txctl ≠ s.txctl → s.busy = false ∧ ∃ v ms, s.moves = .host (.write 0x014 .w32 v) :: ms ∧
      t.txctl = { mtype := v.extractLsb' 0 8, dsn := v.extractLsb' 8 8, psn := v.extractLsb' 16 8, melNa := v.getLsbD 24 }) ∧
    (t.txlen ≠ s.txlen → s.busy = false ∧ ∃ v ms, s.moves = .host (.write 0x018 .w32 v) :: ms ∧
      t.txlen = v.extractLsb' 0 8)

/-- But for reset: BUSY is set only by the acceptance of TX_A, RX_A, ACK_A or TX_B, which also clears ERRINFO and RESULT, and
cleared only by a transmit step or an RX_FINISH step (R22, R80). RESULT changes only by a CMD write with BUSY = 0, which
leaves NONE where it sets BUSY and else OK (SEQ_RESET alone), UNSUPPORTED or INVALID_ARGUMENT, and by the engine step that
clears BUSY (R23, R222). ERRINFO changes only at such an acceptance, to 0, and by the engine step that meets a failure,
which names its state and a kind that goes with the result (R34, R221, R228). -/
def Obligations.StatusAndErrinfoChangeOnlyAsSaid : Prop :=
  ∀ s t : State, step s = .next t → (∀ ms, s.moves ≠ .reset :: ms) →
    (t.busy = true → s.busy = false →
      t.result = .none ∧ t.errinfo = ErrInfo.zero ∧ ∃ v ms i, s.moves = .host (.write 0x000 .w32 v) :: ms ∧
        decode v = .ok i ∧ (i = .txA ∨ i = .rxA ∨ i = .ackA ∨ i = .txB) ∧ t.op = v.extractLsb' 0 8) ∧
    (t.busy = false → s.busy = true →
      s.engineMoves ∧ t.st = .idle ∧
      ((s.st.sending = true ∧ (t.result = .ok ∨ t.result = .timeout ∨ t.result = .ioFailure)) ∨
        (s.st = .rxFinish ∧ t.result = s.pend))) ∧
    (t.result ≠ s.result →
      (s.busy = false ∧ ∃ v ms, s.moves = .host (.write 0x000 .w32 v) :: ms ∧
        (t.busy = true → t.result = .none) ∧
        (t.busy = false → (t.result = .ok ∧ decode v = .ok .seqReset) ∨ t.result = .unsupported ∨
          t.result = .invalidArgument)) ∨
      (s.engineMoves ∧ (s.st.sending = true ∨ s.st = .rxFinish) ∧ t.busy = false)) ∧
    (t.errinfo ≠ s.errinfo →
      (s.busy = false ∧ t.busy = true ∧ t.errinfo = ErrInfo.zero) ∨
      (s.engineMoves ∧ t.errinfo.kind ≠ .none ∧
        t.errinfo.state = (if s.st = .rxSkipExtraSyns ∧ t.errinfo.kind = .unexpected then 3 else s.st.code) ∧
        ((s.st.sending = true ∧ t.st = .idle ∧ t.result = t.errinfo.kind.result) ∨
          (s.st.receiving = true ∧ t.st = .rxFinish ∧ t.pend = t.errinfo.kind.result))))

/-- R35, R36, R59: but for reset, a buffer byte changes only by a host write of the TXBUF word that holds it, with BUSY = 0,
and by the engine step that decodes data byte `i` of a reply, which writes `RXBUF[i]`. -/
def Obligations.BufferBytesChangeOnlyAsSaid : Prop :=
  ∀ (s t : State) (a : Nat), step s = .next t → (∀ ms, s.moves ≠ .reset :: ms) → t.byteAt a ≠ s.byteAt a →
    (s.busy = false ∧ ∃ (w : Fin 64) (v : Word) (ms : List Move),
      s.moves = .host (.write (txWordOffset w.val) .w32 v) :: ms ∧
      0x100 + 4 * w.val ≤ a ∧ a < 0x100 + 4 * w.val + 4) ∨
    ((s.st = .rxReadData ∨ s.st = .rxReadDataEsc) ∧ s.engineMoves ∧ a = 0x200 + s.i.toNat)

/-! ### Commands at acceptance -/

/-- R110: TX_A with BUSY = 0, at most 40 payload bytes and Protocol A is accepted: TXCHK holds the checksum, `txl` the frame
of the present ADDR, SEQ, TYPE and payload; nothing is changed but what the rule names. -/
def Obligations.TxAIsAccepted : Prop :=
  ∀ s : State, s.busy = false → s.txlen.toNat ≤ 40 → s.proto = .a →
    exec .txA s = .next { s with
      txchk := (csumA s.txctl.mtype s.payload).setWidth 16
      txl := frameA s.addr s.seq s.txctl.mtype s.payload
      errinfo := ErrInfo.zero, result := .none, busy := true, op := 0x01, k := 0, st := .txASend }

/-- R200: TX_B with BUSY = 0, an MFL of at most 254 and Protocol B is accepted: TXCHK holds the CRC of the body, `txl` the
stuffed frame; nothing is changed but what the rule names. For either CRC bit order and every global set. The bit order and
the set are the state's parameters (log entry 2). -/
def Obligations.TxBIsAccepted : Prop :=
  ∀ (s : State) (glob : Bool) (body : List Byte) (c : Half), s.busy = false → s.proto = .b →
    glob = (globalCodes s.params.globalMec).contains s.txctl.mtype →
    1 + (if glob then 0 else 2) + (if s.txctl.melNa then 0 else 1) + s.txlen.toNat ≤ 254 →
    body = bodyB glob s.addr s.txctl.mtype s.txctl.dsn s.txctl.psn s.txctl.melNa s.payload →
    c = crc16B s.params.crcBReflect body →
    exec .txB s = .next { s with
      txchk := c
      txl := [0xFE] ++ stuffB (body ++ [c.extractLsb' 8 8, c.extractLsb' 0 8]) ++ [0xFF]
      errinfo := ErrInfo.zero, result := .none, busy := true, op := 0x11, k := 0, st := .txBSend }

/-- R140: RX_A with BUSY = 0, `ADDR.NR` = 0 and Protocol A starts the receive machine; nothing is changed but what the rule
names, and no byte is read. -/
def Obligations.RxAIsAccepted : Prop :=
  ∀ s : State, s.busy = false → s.addr.getLsbD 15 = false → s.proto = .a →
    exec .rxA s = .next { s with
      errinfo := ErrInfo.zero, result := .none, busy := true, op := 0x02, acc := 0, i := 0, n := 0, st := .rxWaitSyn }

/-- R111: ACK_A with BUSY = 0 and Protocol A starts sending `16 16 06 16 00`, whatever ADDR holds; SEQ and TXCHK are not
written. -/
def Obligations.AckAIsAccepted : Prop :=
  ∀ s : State, s.busy = false → s.proto = .a →
    exec .ackA s = .next { s with
      txl := [0x16, 0x16, 0x06, 0x16, 0x00]
      errinfo := ErrInfo.zero, result := .none, busy := true, op := 0x03, k := 0, st := .txAckSend }

/-- R112: SEQ_RESET with BUSY = 0 sets SEQ to 0 and reports OK in the accepting step, in either protocol; ERRINFO is not
cleared and BUSY never set. -/
def Obligations.SeqResetSetsSeqToZero : Prop :=
  ∀ s : State, s.busy = false → s.st = .idle →
    exec .seqReset s = .next { s with seq := 0, result := .ok }

/-- R201: RX_B with BUSY = 0 reports UNSUPPORTED in the accepting step, whatever CFG.PROTO holds; nothing else changes. -/
def Obligations.RxBIsUnsupported : Prop :=
  ∀ s : State, s.busy = false → s.st = .idle →
    exec .rxB s = .next { s with result := .unsupported }

/-- R222, R223, R224: the acceptance checks in their order, argument before protocol; a rejected command writes RESULT and
nothing else. -/
def Obligations.AcceptanceChecksInOrder : Prop :=
  ∀ s : State, s.busy = false → s.st = .idle →
    (40 < s.txlen.toNat → exec .txA s = .next { s with result := .invalidArgument }) ∧
    (s.txlen.toNat ≤ 40 → s.proto = .b → exec .txA s = .next { s with result := .unsupported }) ∧
    (254 < s.mflTxB → exec .txB s = .next { s with result := .invalidArgument }) ∧
    (s.mflTxB ≤ 254 → s.proto = .a → exec .txB s = .next { s with result := .unsupported }) ∧
    (s.addr.getLsbD 15 = true → exec .rxA s = .next { s with result := .unsupported }) ∧
    (s.proto = .b → exec .rxA s = .next { s with result := .unsupported }) ∧
    (s.proto = .b → exec .ackA s = .next { s with result := .unsupported })

/-- R40: a command is accepted only when BUSY = 0; while one runs, a further command is dropped, which sets WBUSY (R24) and
does nothing else. -/
def Obligations.CommandsAreDroppedWhileBusy : Prop :=
  ∀ (i : Instr) (s : State), s.busy = true → exec i s = .next { s with wbusy := true }

/-- The frame of the accepting step of every command: no buffer byte, no session, operand or receive register, nothing of the
transport and of the receive results changes; SEQ only by SEQ_RESET, TXCHK only by TX_A and TX_B, `txl` and `k` only by the
transmit commands, `acc`, `n`, `i` only by RX_A, WBUSY only when BUSY = 1. -/
def Obligations.CommandFrame : Prop :=
  ∀ (i : Instr) (s t : State), exec i s = .next t →
    (∀ a, t.byteAt a = s.byteAt a) ∧
    t.proto = s.proto ∧ t.addr = s.addr ∧ t.txctl = s.txctl ∧ t.txlen = s.txlen ∧ t.rxhdr = s.rxhdr ∧
    t.rxinfo = s.rxinfo ∧ t.line = s.line ∧ t.bus = s.bus ∧ t.moves = s.moves ∧ t.params = s.params ∧
    t.hi = s.hi ∧ t.ra = s.ra ∧ t.rs = s.rs ∧ t.rt = s.rt ∧ t.rc = s.rc ∧ t.pend = s.pend ∧
    (s.busy = false → t.wbusy = s.wbusy) ∧
    (i ≠ .seqReset → t.seq = s.seq) ∧
    (i ≠ .txA → i ≠ .txB → t.txchk = s.txchk) ∧
    (i ≠ .txA → i ≠ .txB → i ≠ .ackA → t.txl = s.txl ∧ t.k = s.k) ∧
    (i ≠ .rxA → t.acc = s.acc ∧ t.n = s.n ∧ t.i = s.i) ∧
    (t.busy = false → t.errinfo = s.errinfo ∧ t.op = s.op ∧ t.txchk = s.txchk)

/-! ### Transmitting -/

/-- R114: one transmit step. On WOK the index moves on, and the last byte ends the command with OK, stepping SEQ for TX_A
only; on WTIMEOUT or WIOERR the failure is captured with the byte and the command ends. Nothing is flushed or retried. -/
def Obligations.TransmitStep : Prop :=
  ∀ (s u : State) (b : Byte) (r : SendResult), s.st.sending = true → s.txl[s.k.toNat]? = some b →
    s.send b = (r, u) →
    (r = .wok → (s.k + 1).toNat ≠ s.txl.length → engineStep s = .next { u with k := s.k + 1 }) ∧
    (r = .wok → (s.k + 1).toNat = s.txl.length → engineStep s = .next { u with
      k := s.k + 1
      seq := if s.op = 0x01 then BitVec.ofNat 4 ((s.seq.toNat + 1) % 10) else s.seq
      result := .ok, busy := false, st := .idle }) ∧
    (r = .wtimeout → engineStep s = .next { u with
      errinfo := { state := s.st.code, kind := .timeout, byte := b, computed := 0 }
      result := .timeout, busy := false, st := .idle }) ∧
    (r = .wioerr → engineStep s = .next { u with
      errinfo := { state := s.st.code, kind := .io, byte := b, computed := 0 }
      result := .ioFailure, busy := false, st := .idle })

/-- TX_A from acceptance to its end, when every `Send` answers WOK: it takes as many engine steps as the frame has bytes
(R253), is busy until the last, sends exactly `frameA(ADDR, SEQ, TYPE, payload)` (R107), steps SEQ (R109) and ends with OK;
the transport's input, the operands and the buffers are as before. The wire and its answers as data of the state are the
model's form (log entry 4). -/
def Obligations.TxASendsItsFrame : Prop :=
  ∀ (s : State) (rest : List SendResult) (frame : List Byte), s.busy = false → s.moves = [] →
    s.txlen.toNat ≤ 40 → s.proto = .a → frame = frameA s.addr s.seq s.txctl.mtype s.payload →
    s.line.sendAnswers = List.replicate frame.length .wok ++ rest →
    ∃ u t, exec .txA s = .next u ∧ runSteps frame.length u = .next t ∧
      (∀ m, m < frame.length → ∃ w, runSteps m u = .next w ∧ w.busy = true ∧ w.seq = s.seq) ∧
      t.line = { s.line with sent := s.line.sent ++ frame, sendAnswers := rest } ∧
      t.busy = false ∧ t.st = .idle ∧ t.result = .ok ∧ t.errinfo = ErrInfo.zero ∧
      t.seq = BitVec.ofNat 4 ((s.seq.toNat + 1) % 10) ∧
      t.txchk = (csumA s.txctl.mtype s.payload).setWidth 16 ∧
      t.addr = s.addr ∧ t.txctl = s.txctl ∧ t.txlen = s.txlen ∧ t.rxhdr = s.rxhdr ∧ t.rxinfo = s.rxinfo ∧
      t.wbusy = s.wbusy ∧ t.proto = s.proto ∧ ∀ a, t.byteAt a = s.byteAt a

/-- TX_B from acceptance to its end, when every `Send` answers WOK: as many engine steps as the frame has bytes (R253), the
wire carries exactly the stuffed frame (R190), RESULT is OK, SEQ and ADDR are not written (R200). For either CRC bit order
and every global set. The bit
order and the set are the state's parameters (log entry 2), the wire and its answers data of the state (log entry 4). -/
def Obligations.TxBSendsItsFrame : Prop :=
  ∀ (s : State) (rest : List SendResult) (frame : List Byte), s.busy = false → s.moves = [] →
    s.mflTxB ≤ 254 → s.proto = .b → frame = wrapB s.params.crcBReflect s.bodyTxB →
    s.line.sendAnswers = List.replicate frame.length .wok ++ rest →
    ∃ u t, exec .txB s = .next u ∧ runSteps frame.length u = .next t ∧
      (∀ m, m < frame.length → ∃ w, runSteps m u = .next w ∧ w.busy = true) ∧
      t.line = { s.line with sent := s.line.sent ++ frame, sendAnswers := rest } ∧
      t.busy = false ∧ t.st = .idle ∧ t.result = .ok ∧ t.errinfo = ErrInfo.zero ∧
      t.seq = s.seq ∧ t.addr = s.addr ∧ t.txchk = crc16B s.params.crcBReflect s.bodyTxB ∧
      t.txctl = s.txctl ∧ t.txlen = s.txlen ∧ t.rxhdr = s.rxhdr ∧ t.rxinfo = s.rxinfo ∧
      t.wbusy = s.wbusy ∧ t.proto = s.proto ∧ ∀ a, t.byteAt a = s.byteAt a

/-- ACK_A from acceptance to its end, when every `Send` answers WOK: five engine steps (R253), the five bytes of R92 on the
wire, OK, SEQ and TXCHK unchanged (R111). The wire and its answers as data of the state are the model's form (log entry 4).
-/
def Obligations.AckASendsItsFrame : Prop :=
  ∀ (s : State) (rest : List SendResult), s.busy = false → s.moves = [] → s.proto = .a →
    s.line.sendAnswers = List.replicate 5 .wok ++ rest →
    ∃ u t, exec .ackA s = .next u ∧ runSteps 5 u = .next t ∧
      t.line = { s.line with sent := s.line.sent ++ [0x16, 0x16, 0x06, 0x16, 0x00], sendAnswers := rest } ∧
      t.busy = false ∧ t.st = .idle ∧ t.result = .ok ∧ t.errinfo = ErrInfo.zero ∧
      t.seq = s.seq ∧ t.txchk = s.txchk ∧ t.addr = s.addr ∧ ∀ a, t.byteAt a = s.byteAt a

/-- R227, R228, R229: a transmit command whose `Send` fails after `j` more bytes stops there: those bytes stay sent, the
capture names the byte that failed, RESULT the failure; SEQ and TXCHK are as before, nothing is flushed and nothing is sent
again. The wire and its answers as data of the state are the model's form (log entry 4). -/
def Obligations.TransmitFailureStopsAtTheByte : Prop :=
  ∀ (s : State) (j : Nat) (b : Byte) (r : SendResult) (rest : List SendResult), s.st.sending = true →
    s.moves = [] → s.txl.length ≤ 522 → s.txl[s.k.toNat + j]? = some b → r ≠ .wok →
    s.line.sendAnswers = List.replicate j .wok ++ r :: rest →
    ∃ t, runSteps (j + 1) s = .next t ∧
      t.line = { s.line with sent := s.line.sent ++ (s.txl.drop s.k.toNat).take j, sendAnswers := rest } ∧
      t.busy = false ∧ t.st = .idle ∧ t.result = (if r = .wtimeout then .timeout else .ioFailure) ∧
      t.errinfo = { state := s.st.code, kind := if r = .wtimeout then .timeout else .io, byte := b, computed := 0 } ∧
      t.seq = s.seq ∧ t.txchk = s.txchk ∧ t.addr = s.addr ∧ ∀ a, t.byteAt a = s.byteAt a

/-- R58: a step adds to the wire nothing, or the one byte `txl[k]` of a transmit step, after which the index moves on; no
sent byte is taken back. The wire as data of the state is the model's form (log entry 4). -/
def Obligations.WireCarriesTheFrameInOrder : Prop :=
  ∀ s t : State, step s = .next t → t.line.sent ≠ s.line.sent →
    ∃ b, s.st.sending = true ∧ s.engineMoves ∧ s.txl[s.k.toNat]? = some b ∧
      t.line.sent = s.line.sent ++ [b] ∧ t.k = s.k + 1

/-- R63, R256: while a transmit command runs nothing but reset changes its frame, TXCHK, ADDR, TXCTL, TXLEN, CFG or TXBUF. -/
def Obligations.FrameInFlightIsFixed : Prop :=
  ∀ s t : State, s.busy = true → s.st.sending = true → step s = .next t → (∀ ms, s.moves ≠ .reset :: ms) →
    t.txl = s.txl ∧ t.txchk = s.txchk ∧ t.addr = s.addr ∧ t.txctl = s.txctl ∧ t.txlen = s.txlen ∧
    t.proto = s.proto ∧ ∀ j, j < 256 → t.txBuf j = s.txBuf j

/-! ### Receiving -/

/-- R143, R145, R147, R148, R152, R158: the states that require one byte value. The table gives state, code, byte and next
state; any other byte is a protocol violation of kind UNEXPECTED. -/
def Obligations.StatesThatRequireOneByte : Prop :=
  ∀ (e next : EngineState) (code : BitVec 5) (want : Byte),
    (e, code, want, next) ∈ ([
      (.rxWaitSyn, 1, 0x16, .rxSkipExtraSyns), (.rxExpectSynAfterAck, 4, 0x16, .rxExpectEmptyOrFrame),
      (.rxHdrSyn, 6, 0x16, .rxHdrSoh), (.rxHdrSoh, 7, 0x01, .rxHdrAddrHi),
      (.rxExpectDleStx, 11, 0x10, .rxExpectStx), (.rxExpectStx, 12, 0x02, .rxReadType),
      (.rxExpectDleEtx, 17, 0x10, .rxExpectEtx), (.rxExpectEtx, 18, 0x03, .rxReadCsumHi)] :
      List (EngineState × BitVec 5 × Byte × EngineState)) →
    ∀ (s u : State) (b : Byte), s.st = e → s.recv = (.rbyte b, u) →
      (b = want → engineStep s = .next { u with st := next }) ∧
      (b ≠ want → engineStep s = .next { u with
        errinfo := { state := code, kind := .unexpected, byte := b, computed := 0 }
        pend := .protocolViolation, st := .rxFinish })

/-- R144, R146, R161: RX_SKIP_EXTRA_SYNS skips SYN, takes ACK, and reports any other byte under code 3;
RX_EXPECT_EMPTY_OR_FRAME takes 0x00 as the ACK-only reply and SYN as the frame's first byte; RX_EXPECT_TRAILING_SYN completes
with OK on SYN. Any other byte is a protocol violation. -/
def Obligations.HandshakeAndTrailingSyn : Prop :=
  ∀ (s u : State) (b : Byte), s.recv = (.rbyte b, u) →
    (s.st = .rxSkipExtraSyns →
      (b = 0x16 → engineStep s = .next u) ∧
      (b = 0x06 → engineStep s = .next { u with st := .rxExpectSynAfterAck }) ∧
      (b ≠ 0x16 → b ≠ 0x06 → engineStep s = .next { u with
        errinfo := { state := 3, kind := .unexpected, byte := b, computed := 0 }
        pend := .protocolViolation, st := .rxFinish })) ∧
    (s.st = .rxExpectEmptyOrFrame →
      (b = 0x00 → engineStep s = .next { u with pend := .okAckOnly, st := .rxFinish }) ∧
      (b = 0x16 → engineStep s = .next { u with st := .rxHdrSyn }) ∧
      (b ≠ 0x00 → b ≠ 0x16 → engineStep s = .next { u with
        errinfo := { state := 5, kind := .unexpected, byte := b, computed := 0 }
        pend := .protocolViolation, st := .rxFinish })) ∧
    (s.st = .rxExpectTrailingSyn →
      (b = 0x16 → engineStep s = .next { u with pend := .ok, st := .rxFinish }) ∧
      (b ≠ 0x16 → engineStep s = .next { u with
        errinfo := { state := 21, kind := .unexpected, byte := b, computed := 0 }
        pend := .protocolViolation, st := .rxFinish }))

/-- R149, R150, R151, R153: the header and the type and length bytes take any value, unescaped; a length above 40 is a
protocol violation of kind LENGTH. -/
def Obligations.HeaderTypeAndLength : Prop :=
  ∀ (s u : State) (b : Byte), s.recv = (.rbyte b, u) →
    (s.st = .rxHdrAddrHi →
      engineStep s = .next { u with ra := b ++ s.ra.extractLsb' 0 8, st := .rxHdrAddrLo }) ∧
    (s.st = .rxHdrAddrLo →
      engineStep s = .next { u with ra := s.ra.extractLsb' 8 8 ++ b, st := .rxHdrSeq }) ∧
    (s.st = .rxHdrSeq → engineStep s = .next { u with rs := b, st := .rxExpectDleStx }) ∧
    (s.st = .rxReadType → engineStep s = .next { u with rt := b, acc := b.setWidth 16, st := .rxReadLen }) ∧
    (s.st = .rxReadLen →
      (40 < b.toNat → engineStep s = .next { u with
        errinfo := { state := 14, kind := .length, byte := b, computed := 0 }
        pend := .protocolViolation, st := .rxFinish }) ∧
      (b.toNat ≤ 40 → engineStep s = .next { u with
        n := b, acc := s.acc + b.setWidth 16, i := 0
        st := if b = 0 then .rxExpectDleEtx else .rxReadData }))

/-- R154, R155, R156: in the data region a DLE is an escape marker, neither stored nor summed; any other byte, and every byte
after an escape, is stored in `RXBUF[i]`, summed and counted, and the count `n` ends the region. No other buffer byte
changes. -/
def Obligations.DataBytesAreUnescapedAndStored : Prop :=
  ∀ (s u : State) (b : Byte), s.recv = (.rbyte b, u) →
    (s.st = .rxReadData → b = 0x10 → engineStep s = .next { u with st := .rxReadDataEsc }) ∧
    ((s.st = .rxReadData ∧ b ≠ 0x10) ∨ s.st = .rxReadDataEsc →
      ∃ t, engineStep s = .next t ∧
        t.byteAt (0x200 + s.i.toNat) = b ∧ (∀ a, a ≠ 0x200 + s.i.toNat → t.byteAt a = s.byteAt a) ∧
        t = { u with
          mem := t.mem, acc := s.acc + b.setWidth 16, i := s.i + 1
          st := if (s.i + 1).toNat = s.n.toNat then .rxExpectDleEtx else .rxReadData })

/-- R159, R160: a checksum digit that is not one of the sixteen is a violation of kind BAD_DIGIT; after the second digit the
received value is compared with the low byte of the accumulator, before the trailing SYN, and a mismatch captures both. In a
legal state that low byte is the checksum of the received type and the decoded data. R157: which digit a byte is. -/
def Obligations.ChecksumDigitsAreCompared : Prop :=
  (∀ (s u : State) (b : Byte), s.recv = (.rbyte b, u) →
    (∀ e code, (e, code) ∈ ([(.rxReadCsumHi, 19), (.rxReadCsumLo, 20)] : List (EngineState × BitVec 5)) →
      s.st = e → hexval b = none → engineStep s = .next { u with
        errinfo := { state := code, kind := .badDigit, byte := b, computed := 0 }
        pend := .protocolViolation, st := .rxFinish }) ∧
    (∀ v, s.st = .rxReadCsumHi → hexval b = some v → engineStep s = .next { u with hi := v, st := .rxReadCsumLo }) ∧
    (∀ (v : BitVec 4) (rc : Byte), s.st = .rxReadCsumLo → hexval b = some v →
      rc = BitVec.ofNat 8 (s.hi.toNat * 16 + v.toNat) →
      (rc = s.acc.extractLsb' 0 8 → engineStep s = .next { u with rc := rc, st := .rxExpectTrailingSyn }) ∧
      (rc ≠ s.acc.extractLsb' 0 8 → engineStep s = .next { u with
        rc := rc
        errinfo := { state := 20, kind := .csumMismatch, byte := rc, computed := s.acc.extractLsb' 0 8 }
        pend := .protocolViolation, st := .rxFinish }))) ∧
  (∀ s : State, s.Inv → s.st = .rxReadCsumLo →
    s.acc.extractLsb' 0 8 = csumA s.rt ((List.range s.n.toNat).map s.rxBuf)) ∧
  ∀ b : Byte, (hexval b).map BitVec.toNat =
    if 0x30 ≤ b.toNat ∧ b.toNat ≤ 0x39 then some (b.toNat - 0x30)
    else if 0x41 ≤ b.toNat ∧ b.toNat ≤ 0x46 then some (b.toNat - 0x37)
    else none

/-- R141: in every receiving state a `Recv` that times out or fails captures the state and goes to RX_FINISH; otherwise the
state's own rule consumes the byte. -/
def Obligations.ReceiveTimeoutAndIoError : Prop :=
  ∀ s u : State, s.st.receiving = true →
    (s.recv = (.rtimeout, u) → engineStep s = .next { u with
      errinfo := { state := s.st.code, kind := .timeout, byte := 0, computed := 0 }
      pend := .timeout, st := .rxFinish }) ∧
    (s.recv = (.rioerr, u) → engineStep s = .next { u with
      errinfo := { state := s.st.code, kind := .io, byte := 0, computed := 0 }
      pend := .ioFailure, st := .rxFinish }) ∧
    ∀ b : Byte, s.recv = (.rbyte b, u) → engineStep s = .next (rxByte b u)

/-- R162, R163: the RX_FINISH step flushes the held input on every exit; OK publishes RXHDR and RXINFO and copies bit 15 of
the received address into ADDR; OK_ACK_ONLY clears RXINFO; every other result leaves RXHDR, RXINFO and ADDR; the result is
reported and the engine is in IDLE. -/
def Obligations.RxFinishFlushesAndReports : Prop :=
  ∀ s : State, s.st = .rxFinish →
    (s.pend = .ok → engineStep s = .next { s with
      line := { s.line with held := [] }
      rxhdr := { addr := s.ra, seq := s.rs, mtype := s.rt }
      rxinfo := { len := s.n, csum := s.rc }
      addr := (s.addr &&& 0x7FFF) ||| (s.ra &&& 0x8000)
      result := .ok, busy := false, st := .idle }) ∧
    (s.pend = .okAckOnly → engineStep s = .next { s with
      line := { s.line with held := [] }
      rxinfo := { len := 0, csum := 0 }
      result := .okAckOnly, busy := false, st := .idle }) ∧
    (s.pend ≠ .ok → s.pend ≠ .okAckOnly → engineStep s = .next { s with
      line := { s.line with held := [] }
      result := s.pend, busy := false, st := .idle })

/-- R144, R146: an ACK-only reply, after any number of extra SYN bytes, ends RX_A with OK_ACK_ONLY, RXINFO 0, RXHDR and ADDR
as before, and what was held after it flushed. The held bytes as data of the state are the model's form (log entry 4), and
one SYN before the ACK is enough (log entry 12). -/
def Obligations.AckOnlyReplyIsAccepted : Prop :=
  ∀ (s : State) (m : Nat) (more : List Byte), s.busy = false → s.moves = [] → s.addr.getLsbD 15 = false →
    s.proto = .a → s.line.held = List.replicate (m + 1) 0x16 ++ [0x06, 0x16, 0x00] ++ more →
    ∃ u t, exec .rxA s = .next u ∧ runSteps (m + 5) u = .next t ∧
      t.result = .okAckOnly ∧ t.busy = false ∧ t.st = .idle ∧ t.rxinfo = { len := 0, csum := 0 } ∧
      t.rxhdr = s.rxhdr ∧ t.addr = s.addr ∧ t.seq = s.seq ∧ t.errinfo = ErrInfo.zero ∧
      t.line = { s.line with held := [] } ∧ ∀ a, t.byteAt a = s.byteAt a

/-- R164: the round trip of Protocol A: RX_A that is supplied the handshake and a frame built by `frameA` from any address
without the no-reply bit, sequence digit, type and at most 40 data bytes, ends with OK and gives all of them back; the steps
are the bytes read plus one (R253), the last of them flushes what is held (R162). What the transport supplies is what the state
holds at the start (log entry 4); no host move and no arriving byte falls into the run. -/
def Obligations.ProtocolARoundTrip : Prop :=
  ∀ (s : State) (a : Half) (q : BitVec 4) (ty : Byte) (d : List Byte) (more : List Byte),
    a.getLsbD 15 = false → q.toNat ≤ 9 → d.length ≤ 40 →
    s.busy = false → s.moves = [] → s.addr.getLsbD 15 = false → s.proto = .a →
    s.line.held = [0x16, 0x16, 0x06, 0x16] ++ frameA a q ty d ++ more →
    ∃ u t, exec .rxA s = .next u ∧ runSteps (4 + (frameA a q ty d).length + 1) u = .next t ∧
      t.result = .ok ∧ t.busy = false ∧ t.st = .idle ∧ t.errinfo = ErrInfo.zero ∧
      (∀ j, (h : j < d.length) → t.rxBuf j = d[j]) ∧
      t.rxhdr = { addr := a, seq := 0x30 + q.setWidth 8, mtype := ty } ∧
      t.rxinfo = { len := BitVec.ofNat 8 d.length, csum := csumA ty d } ∧
      t.addr = s.addr ∧ t.seq = s.seq ∧ t.line = { s.line with held := [] } ∧
      (∀ x, x < 0x200 ∨ 0x200 + d.length ≤ x → t.byteAt x = s.byteAt x)

/-- R160, R165: RX_EXPECT_TRAILING_SYN is reached only when the received checksum equals the sum of the type, the length and
the decoded data bytes mod 256. -/
def Obligations.TrailingSynOnlyAfterGoodChecksum : Prop :=
  ∀ s t : State, s.Inv → step s = .next t → t.st = .rxExpectTrailingSyn →
    t.rc.toNat = (t.rt.toNat + t.n.toNat + ((List.range t.n.toNat).map fun j => (t.rxBuf j).toNat).sum) % 256

/-- R165: RX_A that is supplied the handshake and a frame of `frameA` up to its trailing SYN with one byte of its body (type,
length or data region, escape markers included) changed, and nothing after it, never ends with OK: it ends with
PROTOCOL_VIOLATION or TIMEOUT. What the transport supplies, and that the next `Recv` then times out, is data of the state
(log entry 4). -/
def Obligations.OneChangedByteNeverEndsOk : Prop :=
  ∀ (s : State) (a : Half) (q : BitVec 4) (ty : Byte) (d wire : List Byte) (j : Nat) (b : Byte)
    (rest : List RecvResult),
    q.toNat ≤ 9 → d.length ≤ 40 → wire = (frameA a q ty d).take (15 + d.length + d.count 0x10) →
    8 ≤ j → j < 10 + (escA d).length → wire[j]? ≠ some b →
    s.busy = false → s.moves = [] → s.addr.getLsbD 15 = false → s.proto = .a →
    s.line.held = [0x16, 0x16, 0x06, 0x16] ++ wire.set j b → s.line.recvAnswers = .rtimeout :: rest →
    ∃ u t, exec .rxA s = .next u ∧ (∀ m w, runSteps m u = .next w → w.result ≠ .ok) ∧
      runSteps (wire.length + 6) u = .next t ∧ t.busy = false ∧ t.st = .idle ∧
      (t.result = .protocolViolation ∨ t.result = .timeout)

/-- R41, R42 (U3): the working registers are never read before they are written: two runs from IDLE states that differ in the
working registers alone agree, at every length, in everything else and in how they stop. It is why the reset values the model
chose for them (log entry 1) are not seen. -/
def Obligations.WorkingRegistersNeverReadFirst : Prop :=
  ∀ (m : Nat) (s s' : State), s.st = .idle → s.visible = s'.visible →
    visibleOutcome (runSteps m s) = visibleOutcome (runSteps m s')

/-! ### The codecs -/

/-- R95, R102, R157: the formulas of a checksum digit, sent and received; the digits sent are exactly the sixteen bytes 0x30
to 0x39 and 0x41 to 0x46, these are the only ones accepted, and reading inverts writing. -/
def Obligations.ChecksumDigitAlphabet : Prop :=
  (∀ v : BitVec 4, (hexA v).toNat = if v.toNat < 10 then 0x30 + v.toNat else 0x41 + (v.toNat - 10) % 10) ∧
  (∀ b : Byte, (hexval b).map BitVec.toNat =
    if 0x30 ≤ b.toNat ∧ b.toNat ≤ 0x39 then some (b.toNat - 0x30)
    else if 0x41 ≤ b.toNat ∧ b.toNat ≤ 0x46 then some (b.toNat - 0x37)
    else none) ∧
  (∀ v : BitVec 4, hexval (hexA v) = some v) ∧
  (∀ (b : Byte) (v : BitVec 4), hexval b = some v → hexA v = b) ∧
  ∀ b : Byte, hexval b ≠ none ↔
    (0x30 ≤ b.toNat ∧ b.toNat ≤ 0x39) ∨ (0x41 ≤ b.toNat ∧ b.toNat ≤ 0x46)

/-- R101: for at most 40 data bytes the 16-bit accumulator never wraps, and the checksum is the sum mod 256. -/
def Obligations.ChecksumIsSumModulo256 : Prop :=
  ∀ (ty : Byte) (d : List Byte), d.length ≤ 40 →
    (bodySum ty (BitVec.ofNat 8 d.length) d).toNat = ty.toNat + d.length + (d.map BitVec.toNat).sum ∧
    ty.toNat + d.length + (d.map BitVec.toNat).sum ≤ 10495 ∧
    (csumA ty d).toNat = (ty.toNat + d.length + (d.map BitVec.toNat).sum) % 256

/-- R107: the frame, byte by byte. R104: a data byte 0x10 is doubled, any other is sent as itself. R91: its ten fixed
positions; its length is `15 + n + (number of DLE data bytes) + (64 if NR)` bytes, and what follows the trailing SYN of a
no-reply frame is the post-amble (R108). -/
def Obligations.ProtocolAFrameShape : Prop :=
  (escA [] = [] ∧ ∀ (x : Byte) (d : List Byte), escA (x :: d) = (if x = 0x10 then [0x10, 0x10] else [x]) ++ escA d) ∧
  ∀ (a : Half) (q : BitVec 4) (ty : Byte) (d : List Byte),
    frameA a q ty d =
      [0x16, 0x16, 0x01, a.extractLsb' 8 8, a.extractLsb' 0 8, 0x30 + q.setWidth 8, 0x10, 0x02, ty,
        BitVec.ofNat 8 d.length] ++ escA d ++ [0x10, 0x03] ++
        [hexA ((csumA ty d).extractLsb' 4 4), hexA ((csumA ty d).extractLsb' 0 4)] ++ [0x16] ++
        (if a.getLsbD 15 then List.replicate 64 0x03 else []) ∧
    (escA d).length = d.length + d.count 0x10 ∧
    (frameA a q ty d).length = 15 + d.length + d.count 0x10 + (if a.getLsbD 15 then 64 else 0) ∧
    (frameA a q ty d).take 10 =
      [0x16, 0x16, 0x01, a.extractLsb' 8 8, a.extractLsb' 0 8, 0x30 + q.setWidth 8, 0x10, 0x02, ty,
        BitVec.ofNat 8 d.length] ∧
    (a.getLsbD 15 = true → (frameA a q ty d).drop (15 + d.length + d.count 0x10) = List.replicate 64 0x03)

/-- R113: from a legal SEQ the next one is legal, every sequence digit is 0x30 to 0x39, and ten steps return to the start. -/
def Obligations.SequenceCounterCycles : Prop :=
  ∀ q : BitVec 4, q.toNat ≤ 9 →
    (nextSeq q).toNat = (q.toNat + 1) % 10 ∧ 0x30 ≤ (seqDigit q).toNat ∧ (seqDigit q).toNat ≤ 0x39 ∧
    nextSeq^[10] q = q

/-- R180: the CRC's register before the final XOR goes over one more byte as the rule's loop says, in either bit order, from
0xFFFF. R181 and the source's S1: its check values. The polynomial values are the spec's general knowledge (log entry
10). -/
def Obligations.CrcUpdateAndCheckValues : Prop :=
  (∀ r : Bool, crc16B r [] ^^^ (0xFFFF : Half) = 0xFFFF) ∧
  (∀ (xs : List Byte) (b : Byte), crc16B true (xs ++ [b]) ^^^ (0xFFFF : Half) =
    (fun c : Half => if c.getLsbD 0 then (c >>> 1) ^^^ 0x8408 else c >>> 1)^[8]
      ((crc16B true xs ^^^ (0xFFFF : Half)) ^^^ b.setWidth 16)) ∧
  (∀ (xs : List Byte) (b : Byte), crc16B false (xs ++ [b]) ^^^ (0xFFFF : Half) =
    (fun c : Half => if c.getLsbD 15 then (c <<< 1) ^^^ 0x1021 else c <<< 1)^[8]
      ((crc16B false xs ^^^ (0xFFFF : Half)) ^^^ (b.setWidth 16 <<< 8))) ∧
  crc16B true [] = 0x0000 ∧ crc16B false [] = 0x0000 ∧
  crc16B true [0x01] = 0xE1F1 ∧ crc16B false [0x01] = 0x0E2E ∧
  crc16B true [0x31, 0x32, 0x33, 0x34, 0x35, 0x36, 0x37, 0x38, 0x39] = 0x906E ∧
  crc16B false [0x31, 0x32, 0x33, 0x34, 0x35, 0x36, 0x37, 0x38, 0x39] = 0xD64E

/-- R189, R94: each of the three reserved values is replaced by the escape marker and its own code, and no other byte is
touched. R190: a stuffed list holds no marker and grows by one byte for each reserved value; the frame is the start marker,
the stuffed body and CRC, and the stop marker, and that of an accepted element has at most 522 bytes. -/
def Obligations.StuffedBytesHoldNoMarker : Prop :=
  (stuffB [] = [] ∧ ∀ (x : Byte) (xs : List Byte), stuffB (x :: xs) =
    (if x = 0xFD then [0xFD, 0x00] else if x = 0xFE then [0xFD, 0x01] else if x = 0xFF then [0xFD, 0x02] else [x]) ++
      stuffB xs) ∧
  (∀ xs : List Byte, 0xFE ∉ stuffB xs ∧ 0xFF ∉ stuffB xs ∧
    (stuffB xs).length = xs.length + xs.count 0xFD + xs.count 0xFE + xs.count 0xFF) ∧
  (∀ (r : Bool) (body : List Byte), wrapB r body =
    [0xFE] ++ stuffB (body ++ [(crc16B r body).extractLsb' 8 8, (crc16B r body).extractLsb' 0 8]) ++ [0xFF]) ∧
  ∀ (r glob : Bool) (a : Half) (mec ds ps : Byte) (na : Bool) (d : List Byte),
    (elemB glob mec ds ps na d).length ≤ 254 →
    (wrapB r (bodyB glob a mec ds ps na d)).length ≤ 522

/-- R192: destuffing what was stuffed gives it back; destuffing the bytes between a frame's markers gives the body and two
bytes that are its CRC, high byte first. R191: a list destuffs exactly where it is some list stuffed; after a well-formed
beginning a bare marker, an escape marker at the end and an unknown escape code are each INVALID. -/
def Obligations.ProtocolBRoundTrip : Prop :=
  (∀ xs : List Byte, destuffB (stuffB xs) = some xs) ∧
  (∀ (r glob : Bool) (a : Half) (mec ds ps : Byte) (na : Bool) (d : List Byte) (body inner : List Byte),
    body = bodyB glob a mec ds ps na d → wrapB r body = [0xFE] ++ inner ++ [0xFF] →
    destuffB inner = some (body ++ [(crc16B r body).extractLsb' 8 8, (crc16B r body).extractLsb' 0 8])) ∧
  (∀ xs ys : List Byte, destuffB ys = some xs ↔ stuffB xs = ys) ∧
  ∀ xs ys : List Byte,
    destuffB (stuffB xs ++ 0xFE :: ys) = none ∧ destuffB (stuffB xs ++ 0xFF :: ys) = none ∧
    destuffB (stuffB xs ++ [0xFD]) = none ∧
    ∀ c : Byte, c ≠ 0x00 → c ≠ 0x01 → c ≠ 0x02 → destuffB (stuffB xs ++ 0xFD :: c :: ys) = none

/-- R184, R185, R186: the element and the body, byte by byte; what TX_B takes for them. R187, R188: MFL is the number of the
element's bytes, is at least 1, and is what TX_B compares with 254; the MFL byte holds it; the largest payloads 254 lets
through are 250, 251, 252 and 253 bytes. The set of global codes is the state's parameter (log entry 2). -/
def Obligations.BodyLayoutAndMessageLength : Prop :=
  (∀ (glob : Bool) (a : Half) (mec ds ps : Byte) (na : Bool) (d : List Byte),
    elemB glob mec ds ps na d =
      [mec] ++ (if glob then [] else [ds, ps]) ++ (if na then [] else [BitVec.ofNat 8 d.length]) ++ d ∧
    bodyB glob a mec ds ps na d =
      [a.extractLsb' 8 8, a.extractLsb' 0 8, 0x00, BitVec.ofNat 8 (elemB glob mec ds ps na d).length] ++
        elemB glob mec ds ps na d ∧
    mflOf glob na d.length = (elemB glob mec ds ps na d).length ∧
    mflOf glob na d.length = 1 + (if glob then 0 else 2) + (if na then 0 else 1) + d.length ∧
    1 ≤ mflOf glob na d.length ∧
    (mflOf glob na d.length ≤ 254 →
      ((bodyB glob a mec ds ps na d)[3]?).map BitVec.toNat = some (mflOf glob na d.length))) ∧
  (∀ (s : State) (glob : Bool), glob = (globalCodes s.params.globalMec).contains s.txctl.mtype →
    s.mflTxB = (elemB glob s.txctl.mtype s.txctl.dsn s.txctl.psn s.txctl.melNa s.payload).length ∧
    s.bodyTxB = bodyB glob s.addr s.txctl.mtype s.txctl.dsn s.txctl.psn s.txctl.melNa s.payload) ∧
  (∀ g : GlobalMec, globalCodes g = [g.clockSet, g.dateTimeEnable, g.activeDatasetSelect, g.rdsOnOff, g.siteAddressSet,
    g.encoderAddressSet, g.commModeSet]) ∧
  ∀ (n : Nat) (glob na : Bool),
    mflOf glob na n ≤ 254 ↔
      n ≤ (match glob, na with
        | false, false => 250
        | false, true => 251
        | true, false => 252
        | true, true => 253)
end

