-- ==== Sys2Proof/Laws/State.lean ====
section
/-! SUPPORT. For each named update of State, one lemma per field: what the field holds after the update. True by rfl, so that no
later proof unfolds a record update. -/

namespace Sys2Proof.Machine

/-! ### finish -/

@[simp] theorem finish_busy (r : Result) (s : State) :
    (finish r s).busy = false := rfl
@[simp] theorem finish_result (r : Result) (s : State) :
    (finish r s).result = r := rfl
@[simp] theorem finish_wbusy (r : Result) (s : State) :
    (finish r s).wbusy = s.wbusy := rfl
@[simp] theorem finish_proto (r : Result) (s : State) :
    (finish r s).proto = s.proto := rfl
@[simp] theorem finish_addr (r : Result) (s : State) :
    (finish r s).addr = s.addr := rfl
@[simp] theorem finish_seq (r : Result) (s : State) :
    (finish r s).seq = s.seq := rfl
@[simp] theorem finish_txctl (r : Result) (s : State) :
    (finish r s).txctl = s.txctl := rfl
@[simp] theorem finish_txlen (r : Result) (s : State) :
    (finish r s).txlen = s.txlen := rfl
@[simp] theorem finish_txchk (r : Result) (s : State) :
    (finish r s).txchk = s.txchk := rfl
@[simp] theorem finish_rxhdr (r : Result) (s : State) :
    (finish r s).rxhdr = s.rxhdr := rfl
@[simp] theorem finish_rxinfo (r : Result) (s : State) :
    (finish r s).rxinfo = s.rxinfo := rfl
@[simp] theorem finish_errinfo (r : Result) (s : State) :
    (finish r s).errinfo = s.errinfo := rfl
@[simp] theorem finish_mem (r : Result) (s : State) :
    (finish r s).mem = s.mem := rfl
@[simp] theorem finish_st (r : Result) (s : State) :
    (finish r s).st = .idle := rfl
@[simp] theorem finish_txl (r : Result) (s : State) :
    (finish r s).txl = s.txl := rfl
@[simp] theorem finish_k (r : Result) (s : State) :
    (finish r s).k = s.k := rfl
@[simp] theorem finish_op (r : Result) (s : State) :
    (finish r s).op = s.op := rfl
@[simp] theorem finish_acc (r : Result) (s : State) :
    (finish r s).acc = s.acc := rfl
@[simp] theorem finish_n (r : Result) (s : State) :
    (finish r s).n = s.n := rfl
@[simp] theorem finish_i (r : Result) (s : State) :
    (finish r s).i = s.i := rfl
@[simp] theorem finish_hi (r : Result) (s : State) :
    (finish r s).hi = s.hi := rfl
@[simp] theorem finish_ra (r : Result) (s : State) :
    (finish r s).ra = s.ra := rfl
@[simp] theorem finish_rs (r : Result) (s : State) :
    (finish r s).rs = s.rs := rfl
@[simp] theorem finish_rt (r : Result) (s : State) :
    (finish r s).rt = s.rt := rfl
@[simp] theorem finish_rc (r : Result) (s : State) :
    (finish r s).rc = s.rc := rfl
@[simp] theorem finish_pend (r : Result) (s : State) :
    (finish r s).pend = s.pend := rfl
@[simp] theorem finish_line (r : Result) (s : State) :
    (finish r s).line = s.line := rfl
@[simp] theorem finish_bus (r : Result) (s : State) :
    (finish r s).bus = s.bus := rfl
@[simp] theorem finish_moves (r : Result) (s : State) :
    (finish r s).moves = s.moves := rfl
@[simp] theorem finish_params (r : Result) (s : State) :
    (finish r s).params = s.params := rfl
@[simp] theorem finish_epoch (r : Result) (s : State) :
    (finish r s).epoch = s.epoch := rfl
@[simp] theorem finish_draws (r : Result) (s : State) :
    (finish r s).draws = s.draws := rfl

/-! ### start -/

@[simp] theorem start_busy (c : Byte) (f : EngineState) (s : State) :
    (start c f s).busy = true := rfl
@[simp] theorem start_result (c : Byte) (f : EngineState) (s : State) :
    (start c f s).result = .none := rfl
@[simp] theorem start_wbusy (c : Byte) (f : EngineState) (s : State) :
    (start c f s).wbusy = s.wbusy := rfl
@[simp] theorem start_proto (c : Byte) (f : EngineState) (s : State) :
    (start c f s).proto = s.proto := rfl
@[simp] theorem start_addr (c : Byte) (f : EngineState) (s : State) :
    (start c f s).addr = s.addr := rfl
@[simp] theorem start_seq (c : Byte) (f : EngineState) (s : State) :
    (start c f s).seq = s.seq := rfl
@[simp] theorem start_txctl (c : Byte) (f : EngineState) (s : State) :
    (start c f s).txctl = s.txctl := rfl
@[simp] theorem start_txlen (c : Byte) (f : EngineState) (s : State) :
    (start c f s).txlen = s.txlen := rfl
@[simp] theorem start_txchk (c : Byte) (f : EngineState) (s : State) :
    (start c f s).txchk = s.txchk := rfl
@[simp] theorem start_rxhdr (c : Byte) (f : EngineState) (s : State) :
    (start c f s).rxhdr = s.rxhdr := rfl
@[simp] theorem start_rxinfo (c : Byte) (f : EngineState) (s : State) :
    (start c f s).rxinfo = s.rxinfo := rfl
@[simp] theorem start_errinfo (c : Byte) (f : EngineState) (s : State) :
    (start c f s).errinfo = ErrInfo.zero := rfl
@[simp] theorem start_mem (c : Byte) (f : EngineState) (s : State) :
    (start c f s).mem = s.mem := rfl
@[simp] theorem start_st (c : Byte) (f : EngineState) (s : State) :
    (start c f s).st = f := rfl
@[simp] theorem start_txl (c : Byte) (f : EngineState) (s : State) :
    (start c f s).txl = s.txl := rfl
@[simp] theorem start_k (c : Byte) (f : EngineState) (s : State) :
    (start c f s).k = s.k := rfl
@[simp] theorem start_op (c : Byte) (f : EngineState) (s : State) :
    (start c f s).op = c := rfl
@[simp] theorem start_acc (c : Byte) (f : EngineState) (s : State) :
    (start c f s).acc = s.acc := rfl
@[simp] theorem start_n (c : Byte) (f : EngineState) (s : State) :
    (start c f s).n = s.n := rfl
@[simp] theorem start_i (c : Byte) (f : EngineState) (s : State) :
    (start c f s).i = s.i := rfl
@[simp] theorem start_hi (c : Byte) (f : EngineState) (s : State) :
    (start c f s).hi = s.hi := rfl
@[simp] theorem start_ra (c : Byte) (f : EngineState) (s : State) :
    (start c f s).ra = s.ra := rfl
@[simp] theorem start_rs (c : Byte) (f : EngineState) (s : State) :
    (start c f s).rs = s.rs := rfl
@[simp] theorem start_rt (c : Byte) (f : EngineState) (s : State) :
    (start c f s).rt = s.rt := rfl
@[simp] theorem start_rc (c : Byte) (f : EngineState) (s : State) :
    (start c f s).rc = s.rc := rfl
@[simp] theorem start_pend (c : Byte) (f : EngineState) (s : State) :
    (start c f s).pend = s.pend := rfl
@[simp] theorem start_line (c : Byte) (f : EngineState) (s : State) :
    (start c f s).line = s.line := rfl
@[simp] theorem start_bus (c : Byte) (f : EngineState) (s : State) :
    (start c f s).bus = s.bus := rfl
@[simp] theorem start_moves (c : Byte) (f : EngineState) (s : State) :
    (start c f s).moves = s.moves := rfl
@[simp] theorem start_params (c : Byte) (f : EngineState) (s : State) :
    (start c f s).params = s.params := rfl
@[simp] theorem start_epoch (c : Byte) (f : EngineState) (s : State) :
    (start c f s).epoch = s.epoch := rfl
@[simp] theorem start_draws (c : Byte) (f : EngineState) (s : State) :
    (start c f s).draws = s.draws := rfl

/-! ### writeStatus -/

@[simp] theorem writeStatus_busy (v : Word) (s : State) :
    (writeStatus v s).busy = s.busy := rfl
@[simp] theorem writeStatus_result (v : Word) (s : State) :
    (writeStatus v s).result = s.result := rfl
@[simp] theorem writeStatus_wbusy (v : Word) (s : State) :
    (writeStatus v s).wbusy = (s.wbusy && !v.getLsbD 8) := rfl
@[simp] theorem writeStatus_proto (v : Word) (s : State) :
    (writeStatus v s).proto = s.proto := rfl
@[simp] theorem writeStatus_addr (v : Word) (s : State) :
    (writeStatus v s).addr = s.addr := rfl
@[simp] theorem writeStatus_seq (v : Word) (s : State) :
    (writeStatus v s).seq = s.seq := rfl
@[simp] theorem writeStatus_txctl (v : Word) (s : State) :
    (writeStatus v s).txctl = s.txctl := rfl
@[simp] theorem writeStatus_txlen (v : Word) (s : State) :
    (writeStatus v s).txlen = s.txlen := rfl
@[simp] theorem writeStatus_txchk (v : Word) (s : State) :
    (writeStatus v s).txchk = s.txchk := rfl
@[simp] theorem writeStatus_rxhdr (v : Word) (s : State) :
    (writeStatus v s).rxhdr = s.rxhdr := rfl
@[simp] theorem writeStatus_rxinfo (v : Word) (s : State) :
    (writeStatus v s).rxinfo = s.rxinfo := rfl
@[simp] theorem writeStatus_errinfo (v : Word) (s : State) :
    (writeStatus v s).errinfo = s.errinfo := rfl
@[simp] theorem writeStatus_mem (v : Word) (s : State) :
    (writeStatus v s).mem = s.mem := rfl
@[simp] theorem writeStatus_st (v : Word) (s : State) :
    (writeStatus v s).st = s.st := rfl
@[simp] theorem writeStatus_txl (v : Word) (s : State) :
    (writeStatus v s).txl = s.txl := rfl
@[simp] theorem writeStatus_k (v : Word) (s : State) :
    (writeStatus v s).k = s.k := rfl
@[simp] theorem writeStatus_op (v : Word) (s : State) :
    (writeStatus v s).op = s.op := rfl
@[simp] theorem writeStatus_acc (v : Word) (s : State) :
    (writeStatus v s).acc = s.acc := rfl
@[simp] theorem writeStatus_n (v : Word) (s : State) :
    (writeStatus v s).n = s.n := rfl
@[simp] theorem writeStatus_i (v : Word) (s : State) :
    (writeStatus v s).i = s.i := rfl
@[simp] theorem writeStatus_hi (v : Word) (s : State) :
    (writeStatus v s).hi = s.hi := rfl
@[simp] theorem writeStatus_ra (v : Word) (s : State) :
    (writeStatus v s).ra = s.ra := rfl
@[simp] theorem writeStatus_rs (v : Word) (s : State) :
    (writeStatus v s).rs = s.rs := rfl
@[simp] theorem writeStatus_rt (v : Word) (s : State) :
    (writeStatus v s).rt = s.rt := rfl
@[simp] theorem writeStatus_rc (v : Word) (s : State) :
    (writeStatus v s).rc = s.rc := rfl
@[simp] theorem writeStatus_pend (v : Word) (s : State) :
    (writeStatus v s).pend = s.pend := rfl
@[simp] theorem writeStatus_line (v : Word) (s : State) :
    (writeStatus v s).line = s.line := rfl
@[simp] theorem writeStatus_bus (v : Word) (s : State) :
    (writeStatus v s).bus = s.bus := rfl
@[simp] theorem writeStatus_moves (v : Word) (s : State) :
    (writeStatus v s).moves = s.moves := rfl
@[simp] theorem writeStatus_params (v : Word) (s : State) :
    (writeStatus v s).params = s.params := rfl
@[simp] theorem writeStatus_epoch (v : Word) (s : State) :
    (writeStatus v s).epoch = s.epoch := rfl
@[simp] theorem writeStatus_draws (v : Word) (s : State) :
    (writeStatus v s).draws = s.draws := rfl

/-! ### capture -/

@[simp] theorem capture_busy (c : BitVec 5) (d : Kind) (b x : Byte) (s : State) :
    (capture c d b x s).busy = s.busy := rfl
@[simp] theorem capture_result (c : BitVec 5) (d : Kind) (b x : Byte) (s : State) :
    (capture c d b x s).result = s.result := rfl
@[simp] theorem capture_wbusy (c : BitVec 5) (d : Kind) (b x : Byte) (s : State) :
    (capture c d b x s).wbusy = s.wbusy := rfl
@[simp] theorem capture_proto (c : BitVec 5) (d : Kind) (b x : Byte) (s : State) :
    (capture c d b x s).proto = s.proto := rfl
@[simp] theorem capture_addr (c : BitVec 5) (d : Kind) (b x : Byte) (s : State) :
    (capture c d b x s).addr = s.addr := rfl
@[simp] theorem capture_seq (c : BitVec 5) (d : Kind) (b x : Byte) (s : State) :
    (capture c d b x s).seq = s.seq := rfl
@[simp] theorem capture_txctl (c : BitVec 5) (d : Kind) (b x : Byte) (s : State) :
    (capture c d b x s).txctl = s.txctl := rfl
@[simp] theorem capture_txlen (c : BitVec 5) (d : Kind) (b x : Byte) (s : State) :
    (capture c d b x s).txlen = s.txlen := rfl
@[simp] theorem capture_txchk (c : BitVec 5) (d : Kind) (b x : Byte) (s : State) :
    (capture c d b x s).txchk = s.txchk := rfl
@[simp] theorem capture_rxhdr (c : BitVec 5) (d : Kind) (b x : Byte) (s : State) :
    (capture c d b x s).rxhdr = s.rxhdr := rfl
@[simp] theorem capture_rxinfo (c : BitVec 5) (d : Kind) (b x : Byte) (s : State) :
    (capture c d b x s).rxinfo = s.rxinfo := rfl
@[simp] theorem capture_errinfo (c : BitVec 5) (d : Kind) (b x : Byte) (s : State) :
    (capture c d b x s).errinfo = { state := c, kind := d, byte := b, computed := x } := rfl
@[simp] theorem capture_mem (c : BitVec 5) (d : Kind) (b x : Byte) (s : State) :
    (capture c d b x s).mem = s.mem := rfl
@[simp] theorem capture_st (c : BitVec 5) (d : Kind) (b x : Byte) (s : State) :
    (capture c d b x s).st = s.st := rfl
@[simp] theorem capture_txl (c : BitVec 5) (d : Kind) (b x : Byte) (s : State) :
    (capture c d b x s).txl = s.txl := rfl
@[simp] theorem capture_k (c : BitVec 5) (d : Kind) (b x : Byte) (s : State) :
    (capture c d b x s).k = s.k := rfl
@[simp] theorem capture_op (c : BitVec 5) (d : Kind) (b x : Byte) (s : State) :
    (capture c d b x s).op = s.op := rfl
@[simp] theorem capture_acc (c : BitVec 5) (d : Kind) (b x : Byte) (s : State) :
    (capture c d b x s).acc = s.acc := rfl
@[simp] theorem capture_n (c : BitVec 5) (d : Kind) (b x : Byte) (s : State) :
    (capture c d b x s).n = s.n := rfl
@[simp] theorem capture_i (c : BitVec 5) (d : Kind) (b x : Byte) (s : State) :
    (capture c d b x s).i = s.i := rfl
@[simp] theorem capture_hi (c : BitVec 5) (d : Kind) (b x : Byte) (s : State) :
    (capture c d b x s).hi = s.hi := rfl
@[simp] theorem capture_ra (c : BitVec 5) (d : Kind) (b x : Byte) (s : State) :
    (capture c d b x s).ra = s.ra := rfl
@[simp] theorem capture_rs (c : BitVec 5) (d : Kind) (b x : Byte) (s : State) :
    (capture c d b x s).rs = s.rs := rfl
@[simp] theorem capture_rt (c : BitVec 5) (d : Kind) (b x : Byte) (s : State) :
    (capture c d b x s).rt = s.rt := rfl
@[simp] theorem capture_rc (c : BitVec 5) (d : Kind) (b x : Byte) (s : State) :
    (capture c d b x s).rc = s.rc := rfl
@[simp] theorem capture_pend (c : BitVec 5) (d : Kind) (b x : Byte) (s : State) :
    (capture c d b x s).pend = s.pend := rfl
@[simp] theorem capture_line (c : BitVec 5) (d : Kind) (b x : Byte) (s : State) :
    (capture c d b x s).line = s.line := rfl
@[simp] theorem capture_bus (c : BitVec 5) (d : Kind) (b x : Byte) (s : State) :
    (capture c d b x s).bus = s.bus := rfl
@[simp] theorem capture_moves (c : BitVec 5) (d : Kind) (b x : Byte) (s : State) :
    (capture c d b x s).moves = s.moves := rfl
@[simp] theorem capture_params (c : BitVec 5) (d : Kind) (b x : Byte) (s : State) :
    (capture c d b x s).params = s.params := rfl
@[simp] theorem capture_epoch (c : BitVec 5) (d : Kind) (b x : Byte) (s : State) :
    (capture c d b x s).epoch = s.epoch := rfl
@[simp] theorem capture_draws (c : BitVec 5) (d : Kind) (b x : Byte) (s : State) :
    (capture c d b x s).draws = s.draws := rfl

/-! ### raise -/

@[simp] theorem raise_busy (r : Result) (d : Kind) (b : Byte) (s : State) :
    (raise r d b s).busy = false := rfl
@[simp] theorem raise_result (r : Result) (d : Kind) (b : Byte) (s : State) :
    (raise r d b s).result = r := rfl
@[simp] theorem raise_wbusy (r : Result) (d : Kind) (b : Byte) (s : State) :
    (raise r d b s).wbusy = s.wbusy := rfl
@[simp] theorem raise_proto (r : Result) (d : Kind) (b : Byte) (s : State) :
    (raise r d b s).proto = s.proto := rfl
@[simp] theorem raise_addr (r : Result) (d : Kind) (b : Byte) (s : State) :
    (raise r d b s).addr = s.addr := rfl
@[simp] theorem raise_seq (r : Result) (d : Kind) (b : Byte) (s : State) :
    (raise r d b s).seq = s.seq := rfl
@[simp] theorem raise_txctl (r : Result) (d : Kind) (b : Byte) (s : State) :
    (raise r d b s).txctl = s.txctl := rfl
@[simp] theorem raise_txlen (r : Result) (d : Kind) (b : Byte) (s : State) :
    (raise r d b s).txlen = s.txlen := rfl
@[simp] theorem raise_txchk (r : Result) (d : Kind) (b : Byte) (s : State) :
    (raise r d b s).txchk = s.txchk := rfl
@[simp] theorem raise_rxhdr (r : Result) (d : Kind) (b : Byte) (s : State) :
    (raise r d b s).rxhdr = s.rxhdr := rfl
@[simp] theorem raise_rxinfo (r : Result) (d : Kind) (b : Byte) (s : State) :
    (raise r d b s).rxinfo = s.rxinfo := rfl
@[simp] theorem raise_errinfo (r : Result) (d : Kind) (b : Byte) (s : State) :
    (raise r d b s).errinfo = { state := s.st.code, kind := d, byte := b, computed := 0 } := rfl
@[simp] theorem raise_mem (r : Result) (d : Kind) (b : Byte) (s : State) :
    (raise r d b s).mem = s.mem := rfl
@[simp] theorem raise_st (r : Result) (d : Kind) (b : Byte) (s : State) :
    (raise r d b s).st = .idle := rfl
@[simp] theorem raise_txl (r : Result) (d : Kind) (b : Byte) (s : State) :
    (raise r d b s).txl = s.txl := rfl
@[simp] theorem raise_k (r : Result) (d : Kind) (b : Byte) (s : State) :
    (raise r d b s).k = s.k := rfl
@[simp] theorem raise_op (r : Result) (d : Kind) (b : Byte) (s : State) :
    (raise r d b s).op = s.op := rfl
@[simp] theorem raise_acc (r : Result) (d : Kind) (b : Byte) (s : State) :
    (raise r d b s).acc = s.acc := rfl
@[simp] theorem raise_n (r : Result) (d : Kind) (b : Byte) (s : State) :
    (raise r d b s).n = s.n := rfl
@[simp] theorem raise_i (r : Result) (d : Kind) (b : Byte) (s : State) :
    (raise r d b s).i = s.i := rfl
@[simp] theorem raise_hi (r : Result) (d : Kind) (b : Byte) (s : State) :
    (raise r d b s).hi = s.hi := rfl
@[simp] theorem raise_ra (r : Result) (d : Kind) (b : Byte) (s : State) :
    (raise r d b s).ra = s.ra := rfl
@[simp] theorem raise_rs (r : Result) (d : Kind) (b : Byte) (s : State) :
    (raise r d b s).rs = s.rs := rfl
@[simp] theorem raise_rt (r : Result) (d : Kind) (b : Byte) (s : State) :
    (raise r d b s).rt = s.rt := rfl
@[simp] theorem raise_rc (r : Result) (d : Kind) (b : Byte) (s : State) :
    (raise r d b s).rc = s.rc := rfl
@[simp] theorem raise_pend (r : Result) (d : Kind) (b : Byte) (s : State) :
    (raise r d b s).pend = s.pend := rfl
@[simp] theorem raise_line (r : Result) (d : Kind) (b : Byte) (s : State) :
    (raise r d b s).line = s.line := rfl
@[simp] theorem raise_bus (r : Result) (d : Kind) (b : Byte) (s : State) :
    (raise r d b s).bus = s.bus := rfl
@[simp] theorem raise_moves (r : Result) (d : Kind) (b : Byte) (s : State) :
    (raise r d b s).moves = s.moves := rfl
@[simp] theorem raise_params (r : Result) (d : Kind) (b : Byte) (s : State) :
    (raise r d b s).params = s.params := rfl
@[simp] theorem raise_epoch (r : Result) (d : Kind) (b : Byte) (s : State) :
    (raise r d b s).epoch = s.epoch := rfl
@[simp] theorem raise_draws (r : Result) (d : Kind) (b : Byte) (s : State) :
    (raise r d b s).draws = s.draws := rfl

/-! ### rxFail -/

@[simp] theorem rxFail_busy (r : Result) (c : BitVec 5) (d : Kind) (b x : Byte) (s : State) :
    (rxFail r c d b x s).busy = s.busy := rfl
@[simp] theorem rxFail_result (r : Result) (c : BitVec 5) (d : Kind) (b x : Byte) (s : State) :
    (rxFail r c d b x s).result = s.result := rfl
@[simp] theorem rxFail_wbusy (r : Result) (c : BitVec 5) (d : Kind) (b x : Byte) (s : State) :
    (rxFail r c d b x s).wbusy = s.wbusy := rfl
@[simp] theorem rxFail_proto (r : Result) (c : BitVec 5) (d : Kind) (b x : Byte) (s : State) :
    (rxFail r c d b x s).proto = s.proto := rfl
@[simp] theorem rxFail_addr (r : Result) (c : BitVec 5) (d : Kind) (b x : Byte) (s : State) :
    (rxFail r c d b x s).addr = s.addr := rfl
@[simp] theorem rxFail_seq (r : Result) (c : BitVec 5) (d : Kind) (b x : Byte) (s : State) :
    (rxFail r c d b x s).seq = s.seq := rfl
@[simp] theorem rxFail_txctl (r : Result) (c : BitVec 5) (d : Kind) (b x : Byte) (s : State) :
    (rxFail r c d b x s).txctl = s.txctl := rfl
@[simp] theorem rxFail_txlen (r : Result) (c : BitVec 5) (d : Kind) (b x : Byte) (s : State) :
    (rxFail r c d b x s).txlen = s.txlen := rfl
@[simp] theorem rxFail_txchk (r : Result) (c : BitVec 5) (d : Kind) (b x : Byte) (s : State) :
    (rxFail r c d b x s).txchk = s.txchk := rfl
@[simp] theorem rxFail_rxhdr (r : Result) (c : BitVec 5) (d : Kind) (b x : Byte) (s : State) :
    (rxFail r c d b x s).rxhdr = s.rxhdr := rfl
@[simp] theorem rxFail_rxinfo (r : Result) (c : BitVec 5) (d : Kind) (b x : Byte) (s : State) :
    (rxFail r c d b x s).rxinfo = s.rxinfo := rfl
@[simp] theorem rxFail_errinfo (r : Result) (c : BitVec 5) (d : Kind) (b x : Byte) (s : State) :
    (rxFail r c d b x s).errinfo = { state := c, kind := d, byte := b, computed := x } := rfl
@[simp] theorem rxFail_mem (r : Result) (c : BitVec 5) (d : Kind) (b x : Byte) (s : State) :
    (rxFail r c d b x s).mem = s.mem := rfl
@[simp] theorem rxFail_st (r : Result) (c : BitVec 5) (d : Kind) (b x : Byte) (s : State) :
    (rxFail r c d b x s).st = .rxFinish := rfl
@[simp] theorem rxFail_txl (r : Result) (c : BitVec 5) (d : Kind) (b x : Byte) (s : State) :
    (rxFail r c d b x s).txl = s.txl := rfl
@[simp] theorem rxFail_k (r : Result) (c : BitVec 5) (d : Kind) (b x : Byte) (s : State) :
    (rxFail r c d b x s).k = s.k := rfl
@[simp] theorem rxFail_op (r : Result) (c : BitVec 5) (d : Kind) (b x : Byte) (s : State) :
    (rxFail r c d b x s).op = s.op := rfl
@[simp] theorem rxFail_acc (r : Result) (c : BitVec 5) (d : Kind) (b x : Byte) (s : State) :
    (rxFail r c d b x s).acc = s.acc := rfl
@[simp] theorem rxFail_n (r : Result) (c : BitVec 5) (d : Kind) (b x : Byte) (s : State) :
    (rxFail r c d b x s).n = s.n := rfl
@[simp] theorem rxFail_i (r : Result) (c : BitVec 5) (d : Kind) (b x : Byte) (s : State) :
    (rxFail r c d b x s).i = s.i := rfl
@[simp] theorem rxFail_hi (r : Result) (c : BitVec 5) (d : Kind) (b x : Byte) (s : State) :
    (rxFail r c d b x s).hi = s.hi := rfl
@[simp] theorem rxFail_ra (r : Result) (c : BitVec 5) (d : Kind) (b x : Byte) (s : State) :
    (rxFail r c d b x s).ra = s.ra := rfl
@[simp] theorem rxFail_rs (r : Result) (c : BitVec 5) (d : Kind) (b x : Byte) (s : State) :
    (rxFail r c d b x s).rs = s.rs := rfl
@[simp] theorem rxFail_rt (r : Result) (c : BitVec 5) (d : Kind) (b x : Byte) (s : State) :
    (rxFail r c d b x s).rt = s.rt := rfl
@[simp] theorem rxFail_rc (r : Result) (c : BitVec 5) (d : Kind) (b x : Byte) (s : State) :
    (rxFail r c d b x s).rc = s.rc := rfl
@[simp] theorem rxFail_pend (r : Result) (c : BitVec 5) (d : Kind) (b x : Byte) (s : State) :
    (rxFail r c d b x s).pend = r := rfl
@[simp] theorem rxFail_line (r : Result) (c : BitVec 5) (d : Kind) (b x : Byte) (s : State) :
    (rxFail r c d b x s).line = s.line := rfl
@[simp] theorem rxFail_bus (r : Result) (c : BitVec 5) (d : Kind) (b x : Byte) (s : State) :
    (rxFail r c d b x s).bus = s.bus := rfl
@[simp] theorem rxFail_moves (r : Result) (c : BitVec 5) (d : Kind) (b x : Byte) (s : State) :
    (rxFail r c d b x s).moves = s.moves := rfl
@[simp] theorem rxFail_params (r : Result) (c : BitVec 5) (d : Kind) (b x : Byte) (s : State) :
    (rxFail r c d b x s).params = s.params := rfl
@[simp] theorem rxFail_epoch (r : Result) (c : BitVec 5) (d : Kind) (b x : Byte) (s : State) :
    (rxFail r c d b x s).epoch = s.epoch := rfl
@[simp] theorem rxFail_draws (r : Result) (c : BitVec 5) (d : Kind) (b x : Byte) (s : State) :
    (rxFail r c d b x s).draws = s.draws := rfl

/-! ### viol -/

@[simp] theorem viol_busy (d : Kind) (b x : Byte) (s : State) :
    (viol d b x s).busy = s.busy := rfl
@[simp] theorem viol_result (d : Kind) (b x : Byte) (s : State) :
    (viol d b x s).result = s.result := rfl
@[simp] theorem viol_wbusy (d : Kind) (b x : Byte) (s : State) :
    (viol d b x s).wbusy = s.wbusy := rfl
@[simp] theorem viol_proto (d : Kind) (b x : Byte) (s : State) :
    (viol d b x s).proto = s.proto := rfl
@[simp] theorem viol_addr (d : Kind) (b x : Byte) (s : State) :
    (viol d b x s).addr = s.addr := rfl
@[simp] theorem viol_seq (d : Kind) (b x : Byte) (s : State) :
    (viol d b x s).seq = s.seq := rfl
@[simp] theorem viol_txctl (d : Kind) (b x : Byte) (s : State) :
    (viol d b x s).txctl = s.txctl := rfl
@[simp] theorem viol_txlen (d : Kind) (b x : Byte) (s : State) :
    (viol d b x s).txlen = s.txlen := rfl
@[simp] theorem viol_txchk (d : Kind) (b x : Byte) (s : State) :
    (viol d b x s).txchk = s.txchk := rfl
@[simp] theorem viol_rxhdr (d : Kind) (b x : Byte) (s : State) :
    (viol d b x s).rxhdr = s.rxhdr := rfl
@[simp] theorem viol_rxinfo (d : Kind) (b x : Byte) (s : State) :
    (viol d b x s).rxinfo = s.rxinfo := rfl
@[simp] theorem viol_errinfo (d : Kind) (b x : Byte) (s : State) :
    (viol d b x s).errinfo = { state := s.st.code, kind := d, byte := b, computed := x } := rfl
@[simp] theorem viol_mem (d : Kind) (b x : Byte) (s : State) :
    (viol d b x s).mem = s.mem := rfl
@[simp] theorem viol_st (d : Kind) (b x : Byte) (s : State) :
    (viol d b x s).st = .rxFinish := rfl
@[simp] theorem viol_txl (d : Kind) (b x : Byte) (s : State) :
    (viol d b x s).txl = s.txl := rfl
@[simp] theorem viol_k (d : Kind) (b x : Byte) (s : State) :
    (viol d b x s).k = s.k := rfl
@[simp] theorem viol_op (d : Kind) (b x : Byte) (s : State) :
    (viol d b x s).op = s.op := rfl
@[simp] theorem viol_acc (d : Kind) (b x : Byte) (s : State) :
    (viol d b x s).acc = s.acc := rfl
@[simp] theorem viol_n (d : Kind) (b x : Byte) (s : State) :
    (viol d b x s).n = s.n := rfl
@[simp] theorem viol_i (d : Kind) (b x : Byte) (s : State) :
    (viol d b x s).i = s.i := rfl
@[simp] theorem viol_hi (d : Kind) (b x : Byte) (s : State) :
    (viol d b x s).hi = s.hi := rfl
@[simp] theorem viol_ra (d : Kind) (b x : Byte) (s : State) :
    (viol d b x s).ra = s.ra := rfl
@[simp] theorem viol_rs (d : Kind) (b x : Byte) (s : State) :
    (viol d b x s).rs = s.rs := rfl
@[simp] theorem viol_rt (d : Kind) (b x : Byte) (s : State) :
    (viol d b x s).rt = s.rt := rfl
@[simp] theorem viol_rc (d : Kind) (b x : Byte) (s : State) :
    (viol d b x s).rc = s.rc := rfl
@[simp] theorem viol_pend (d : Kind) (b x : Byte) (s : State) :
    (viol d b x s).pend = .protocolViolation := rfl
@[simp] theorem viol_line (d : Kind) (b x : Byte) (s : State) :
    (viol d b x s).line = s.line := rfl
@[simp] theorem viol_bus (d : Kind) (b x : Byte) (s : State) :
    (viol d b x s).bus = s.bus := rfl
@[simp] theorem viol_moves (d : Kind) (b x : Byte) (s : State) :
    (viol d b x s).moves = s.moves := rfl
@[simp] theorem viol_params (d : Kind) (b x : Byte) (s : State) :
    (viol d b x s).params = s.params := rfl
@[simp] theorem viol_epoch (d : Kind) (b x : Byte) (s : State) :
    (viol d b x s).epoch = s.epoch := rfl
@[simp] theorem viol_draws (d : Kind) (b x : Byte) (s : State) :
    (viol d b x s).draws = s.draws := rfl

/-! ### flush -/

@[simp] theorem flush_busy (s : State) :
    (s.flush).busy = s.busy := rfl
@[simp] theorem flush_result (s : State) :
    (s.flush).result = s.result := rfl
@[simp] theorem flush_wbusy (s : State) :
    (s.flush).wbusy = s.wbusy := rfl
@[simp] theorem flush_proto (s : State) :
    (s.flush).proto = s.proto := rfl
@[simp] theorem flush_addr (s : State) :
    (s.flush).addr = s.addr := rfl
@[simp] theorem flush_seq (s : State) :
    (s.flush).seq = s.seq := rfl
@[simp] theorem flush_txctl (s : State) :
    (s.flush).txctl = s.txctl := rfl
@[simp] theorem flush_txlen (s : State) :
    (s.flush).txlen = s.txlen := rfl
@[simp] theorem flush_txchk (s : State) :
    (s.flush).txchk = s.txchk := rfl
@[simp] theorem flush_rxhdr (s : State) :
    (s.flush).rxhdr = s.rxhdr := rfl
@[simp] theorem flush_rxinfo (s : State) :
    (s.flush).rxinfo = s.rxinfo := rfl
@[simp] theorem flush_errinfo (s : State) :
    (s.flush).errinfo = s.errinfo := rfl
@[simp] theorem flush_mem (s : State) :
    (s.flush).mem = s.mem := rfl
@[simp] theorem flush_st (s : State) :
    (s.flush).st = s.st := rfl
@[simp] theorem flush_txl (s : State) :
    (s.flush).txl = s.txl := rfl
@[simp] theorem flush_k (s : State) :
    (s.flush).k = s.k := rfl
@[simp] theorem flush_op (s : State) :
    (s.flush).op = s.op := rfl
@[simp] theorem flush_acc (s : State) :
    (s.flush).acc = s.acc := rfl
@[simp] theorem flush_n (s : State) :
    (s.flush).n = s.n := rfl
@[simp] theorem flush_i (s : State) :
    (s.flush).i = s.i := rfl
@[simp] theorem flush_hi (s : State) :
    (s.flush).hi = s.hi := rfl
@[simp] theorem flush_ra (s : State) :
    (s.flush).ra = s.ra := rfl
@[simp] theorem flush_rs (s : State) :
    (s.flush).rs = s.rs := rfl
@[simp] theorem flush_rt (s : State) :
    (s.flush).rt = s.rt := rfl
@[simp] theorem flush_rc (s : State) :
    (s.flush).rc = s.rc := rfl
@[simp] theorem flush_pend (s : State) :
    (s.flush).pend = s.pend := rfl
@[simp] theorem flush_line (s : State) :
    (s.flush).line = { s.line with held := [] } := rfl
@[simp] theorem flush_bus (s : State) :
    (s.flush).bus = s.bus := rfl
@[simp] theorem flush_moves (s : State) :
    (s.flush).moves = s.moves := rfl
@[simp] theorem flush_params (s : State) :
    (s.flush).params = s.params := rfl
@[simp] theorem flush_epoch (s : State) :
    (s.flush).epoch = s.epoch := rfl
@[simp] theorem flush_draws (s : State) :
    (s.flush).draws = s.draws := rfl

/-! ### arrive -/

@[simp] theorem arrive_busy (b : Byte) (s : State) :
    (State.arrive b s).busy = s.busy := rfl
@[simp] theorem arrive_result (b : Byte) (s : State) :
    (State.arrive b s).result = s.result := rfl
@[simp] theorem arrive_wbusy (b : Byte) (s : State) :
    (State.arrive b s).wbusy = s.wbusy := rfl
@[simp] theorem arrive_proto (b : Byte) (s : State) :
    (State.arrive b s).proto = s.proto := rfl
@[simp] theorem arrive_addr (b : Byte) (s : State) :
    (State.arrive b s).addr = s.addr := rfl
@[simp] theorem arrive_seq (b : Byte) (s : State) :
    (State.arrive b s).seq = s.seq := rfl
@[simp] theorem arrive_txctl (b : Byte) (s : State) :
    (State.arrive b s).txctl = s.txctl := rfl
@[simp] theorem arrive_txlen (b : Byte) (s : State) :
    (State.arrive b s).txlen = s.txlen := rfl
@[simp] theorem arrive_txchk (b : Byte) (s : State) :
    (State.arrive b s).txchk = s.txchk := rfl
@[simp] theorem arrive_rxhdr (b : Byte) (s : State) :
    (State.arrive b s).rxhdr = s.rxhdr := rfl
@[simp] theorem arrive_rxinfo (b : Byte) (s : State) :
    (State.arrive b s).rxinfo = s.rxinfo := rfl
@[simp] theorem arrive_errinfo (b : Byte) (s : State) :
    (State.arrive b s).errinfo = s.errinfo := rfl
@[simp] theorem arrive_mem (b : Byte) (s : State) :
    (State.arrive b s).mem = s.mem := rfl
@[simp] theorem arrive_st (b : Byte) (s : State) :
    (State.arrive b s).st = s.st := rfl
@[simp] theorem arrive_txl (b : Byte) (s : State) :
    (State.arrive b s).txl = s.txl := rfl
@[simp] theorem arrive_k (b : Byte) (s : State) :
    (State.arrive b s).k = s.k := rfl
@[simp] theorem arrive_op (b : Byte) (s : State) :
    (State.arrive b s).op = s.op := rfl
@[simp] theorem arrive_acc (b : Byte) (s : State) :
    (State.arrive b s).acc = s.acc := rfl
@[simp] theorem arrive_n (b : Byte) (s : State) :
    (State.arrive b s).n = s.n := rfl
@[simp] theorem arrive_i (b : Byte) (s : State) :
    (State.arrive b s).i = s.i := rfl
@[simp] theorem arrive_hi (b : Byte) (s : State) :
    (State.arrive b s).hi = s.hi := rfl
@[simp] theorem arrive_ra (b : Byte) (s : State) :
    (State.arrive b s).ra = s.ra := rfl
@[simp] theorem arrive_rs (b : Byte) (s : State) :
    (State.arrive b s).rs = s.rs := rfl
@[simp] theorem arrive_rt (b : Byte) (s : State) :
    (State.arrive b s).rt = s.rt := rfl
@[simp] theorem arrive_rc (b : Byte) (s : State) :
    (State.arrive b s).rc = s.rc := rfl
@[simp] theorem arrive_pend (b : Byte) (s : State) :
    (State.arrive b s).pend = s.pend := rfl
@[simp] theorem arrive_line (b : Byte) (s : State) :
    (State.arrive b s).line = { s.line with held := s.line.held ++ [b] } := rfl
@[simp] theorem arrive_bus (b : Byte) (s : State) :
    (State.arrive b s).bus = s.bus := rfl
@[simp] theorem arrive_moves (b : Byte) (s : State) :
    (State.arrive b s).moves = s.moves := rfl
@[simp] theorem arrive_params (b : Byte) (s : State) :
    (State.arrive b s).params = s.params := rfl
@[simp] theorem arrive_epoch (b : Byte) (s : State) :
    (State.arrive b s).epoch = s.epoch := rfl
@[simp] theorem arrive_draws (b : Byte) (s : State) :
    (State.arrive b s).draws = s.draws := rfl

/-! ### answer -/

@[simp] theorem answer_busy (b : BusAnswer) (s : State) :
    (s.answer b).busy = s.busy := rfl
@[simp] theorem answer_result (b : BusAnswer) (s : State) :
    (s.answer b).result = s.result := rfl
@[simp] theorem answer_wbusy (b : BusAnswer) (s : State) :
    (s.answer b).wbusy = s.wbusy := rfl
@[simp] theorem answer_proto (b : BusAnswer) (s : State) :
    (s.answer b).proto = s.proto := rfl
@[simp] theorem answer_addr (b : BusAnswer) (s : State) :
    (s.answer b).addr = s.addr := rfl
@[simp] theorem answer_seq (b : BusAnswer) (s : State) :
    (s.answer b).seq = s.seq := rfl
@[simp] theorem answer_txctl (b : BusAnswer) (s : State) :
    (s.answer b).txctl = s.txctl := rfl
@[simp] theorem answer_txlen (b : BusAnswer) (s : State) :
    (s.answer b).txlen = s.txlen := rfl
@[simp] theorem answer_txchk (b : BusAnswer) (s : State) :
    (s.answer b).txchk = s.txchk := rfl
@[simp] theorem answer_rxhdr (b : BusAnswer) (s : State) :
    (s.answer b).rxhdr = s.rxhdr := rfl
@[simp] theorem answer_rxinfo (b : BusAnswer) (s : State) :
    (s.answer b).rxinfo = s.rxinfo := rfl
@[simp] theorem answer_errinfo (b : BusAnswer) (s : State) :
    (s.answer b).errinfo = s.errinfo := rfl
@[simp] theorem answer_mem (b : BusAnswer) (s : State) :
    (s.answer b).mem = s.mem := rfl
@[simp] theorem answer_st (b : BusAnswer) (s : State) :
    (s.answer b).st = s.st := rfl
@[simp] theorem answer_txl (b : BusAnswer) (s : State) :
    (s.answer b).txl = s.txl := rfl
@[simp] theorem answer_k (b : BusAnswer) (s : State) :
    (s.answer b).k = s.k := rfl
@[simp] theorem answer_op (b : BusAnswer) (s : State) :
    (s.answer b).op = s.op := rfl
@[simp] theorem answer_acc (b : BusAnswer) (s : State) :
    (s.answer b).acc = s.acc := rfl
@[simp] theorem answer_n (b : BusAnswer) (s : State) :
    (s.answer b).n = s.n := rfl
@[simp] theorem answer_i (b : BusAnswer) (s : State) :
    (s.answer b).i = s.i := rfl
@[simp] theorem answer_hi (b : BusAnswer) (s : State) :
    (s.answer b).hi = s.hi := rfl
@[simp] theorem answer_ra (b : BusAnswer) (s : State) :
    (s.answer b).ra = s.ra := rfl
@[simp] theorem answer_rs (b : BusAnswer) (s : State) :
    (s.answer b).rs = s.rs := rfl
@[simp] theorem answer_rt (b : BusAnswer) (s : State) :
    (s.answer b).rt = s.rt := rfl
@[simp] theorem answer_rc (b : BusAnswer) (s : State) :
    (s.answer b).rc = s.rc := rfl
@[simp] theorem answer_pend (b : BusAnswer) (s : State) :
    (s.answer b).pend = s.pend := rfl
@[simp] theorem answer_line (b : BusAnswer) (s : State) :
    (s.answer b).line = s.line := rfl
@[simp] theorem answer_bus (b : BusAnswer) (s : State) :
    (s.answer b).bus = b := rfl
@[simp] theorem answer_moves (b : BusAnswer) (s : State) :
    (s.answer b).moves = s.moves := rfl
@[simp] theorem answer_params (b : BusAnswer) (s : State) :
    (s.answer b).params = s.params := rfl
@[simp] theorem answer_epoch (b : BusAnswer) (s : State) :
    (s.answer b).epoch = s.epoch := rfl
@[simp] theorem answer_draws (b : BusAnswer) (s : State) :
    (s.answer b).draws = s.draws := rfl

/-! ### dropMove -/

@[simp] theorem dropMove_busy (s : State) :
    (s.dropMove).busy = s.busy := rfl
@[simp] theorem dropMove_result (s : State) :
    (s.dropMove).result = s.result := rfl
@[simp] theorem dropMove_wbusy (s : State) :
    (s.dropMove).wbusy = s.wbusy := rfl
@[simp] theorem dropMove_proto (s : State) :
    (s.dropMove).proto = s.proto := rfl
@[simp] theorem dropMove_addr (s : State) :
    (s.dropMove).addr = s.addr := rfl
@[simp] theorem dropMove_seq (s : State) :
    (s.dropMove).seq = s.seq := rfl
@[simp] theorem dropMove_txctl (s : State) :
    (s.dropMove).txctl = s.txctl := rfl
@[simp] theorem dropMove_txlen (s : State) :
    (s.dropMove).txlen = s.txlen := rfl
@[simp] theorem dropMove_txchk (s : State) :
    (s.dropMove).txchk = s.txchk := rfl
@[simp] theorem dropMove_rxhdr (s : State) :
    (s.dropMove).rxhdr = s.rxhdr := rfl
@[simp] theorem dropMove_rxinfo (s : State) :
    (s.dropMove).rxinfo = s.rxinfo := rfl
@[simp] theorem dropMove_errinfo (s : State) :
    (s.dropMove).errinfo = s.errinfo := rfl
@[simp] theorem dropMove_mem (s : State) :
    (s.dropMove).mem = s.mem := rfl
@[simp] theorem dropMove_st (s : State) :
    (s.dropMove).st = s.st := rfl
@[simp] theorem dropMove_txl (s : State) :
    (s.dropMove).txl = s.txl := rfl
@[simp] theorem dropMove_k (s : State) :
    (s.dropMove).k = s.k := rfl
@[simp] theorem dropMove_op (s : State) :
    (s.dropMove).op = s.op := rfl
@[simp] theorem dropMove_acc (s : State) :
    (s.dropMove).acc = s.acc := rfl
@[simp] theorem dropMove_n (s : State) :
    (s.dropMove).n = s.n := rfl
@[simp] theorem dropMove_i (s : State) :
    (s.dropMove).i = s.i := rfl
@[simp] theorem dropMove_hi (s : State) :
    (s.dropMove).hi = s.hi := rfl
@[simp] theorem dropMove_ra (s : State) :
    (s.dropMove).ra = s.ra := rfl
@[simp] theorem dropMove_rs (s : State) :
    (s.dropMove).rs = s.rs := rfl
@[simp] theorem dropMove_rt (s : State) :
    (s.dropMove).rt = s.rt := rfl
@[simp] theorem dropMove_rc (s : State) :
    (s.dropMove).rc = s.rc := rfl
@[simp] theorem dropMove_pend (s : State) :
    (s.dropMove).pend = s.pend := rfl
@[simp] theorem dropMove_line (s : State) :
    (s.dropMove).line = s.line := rfl
@[simp] theorem dropMove_bus (s : State) :
    (s.dropMove).bus = s.bus := rfl
@[simp] theorem dropMove_moves (s : State) :
    (s.dropMove).moves = s.moves.tail := rfl
@[simp] theorem dropMove_params (s : State) :
    (s.dropMove).params = s.params := rfl
@[simp] theorem dropMove_epoch (s : State) :
    (s.dropMove).epoch = s.epoch := rfl
@[simp] theorem dropMove_draws (s : State) :
    (s.dropMove).draws = s.draws := rfl

/-! ### setRxBuf -/

@[simp] theorem setRxBuf_busy (j : Nat) (b : Byte) (s : State) :
    (State.setRxBuf j b s).busy = s.busy := rfl
@[simp] theorem setRxBuf_result (j : Nat) (b : Byte) (s : State) :
    (State.setRxBuf j b s).result = s.result := rfl
@[simp] theorem setRxBuf_wbusy (j : Nat) (b : Byte) (s : State) :
    (State.setRxBuf j b s).wbusy = s.wbusy := rfl
@[simp] theorem setRxBuf_proto (j : Nat) (b : Byte) (s : State) :
    (State.setRxBuf j b s).proto = s.proto := rfl
@[simp] theorem setRxBuf_addr (j : Nat) (b : Byte) (s : State) :
    (State.setRxBuf j b s).addr = s.addr := rfl
@[simp] theorem setRxBuf_seq (j : Nat) (b : Byte) (s : State) :
    (State.setRxBuf j b s).seq = s.seq := rfl
@[simp] theorem setRxBuf_txctl (j : Nat) (b : Byte) (s : State) :
    (State.setRxBuf j b s).txctl = s.txctl := rfl
@[simp] theorem setRxBuf_txlen (j : Nat) (b : Byte) (s : State) :
    (State.setRxBuf j b s).txlen = s.txlen := rfl
@[simp] theorem setRxBuf_txchk (j : Nat) (b : Byte) (s : State) :
    (State.setRxBuf j b s).txchk = s.txchk := rfl
@[simp] theorem setRxBuf_rxhdr (j : Nat) (b : Byte) (s : State) :
    (State.setRxBuf j b s).rxhdr = s.rxhdr := rfl
@[simp] theorem setRxBuf_rxinfo (j : Nat) (b : Byte) (s : State) :
    (State.setRxBuf j b s).rxinfo = s.rxinfo := rfl
@[simp] theorem setRxBuf_errinfo (j : Nat) (b : Byte) (s : State) :
    (State.setRxBuf j b s).errinfo = s.errinfo := rfl
@[simp] theorem setRxBuf_mem (j : Nat) (b : Byte) (s : State) :
    (State.setRxBuf j b s).mem = s.mem.set (rxBase + j) b := rfl
@[simp] theorem setRxBuf_st (j : Nat) (b : Byte) (s : State) :
    (State.setRxBuf j b s).st = s.st := rfl
@[simp] theorem setRxBuf_txl (j : Nat) (b : Byte) (s : State) :
    (State.setRxBuf j b s).txl = s.txl := rfl
@[simp] theorem setRxBuf_k (j : Nat) (b : Byte) (s : State) :
    (State.setRxBuf j b s).k = s.k := rfl
@[simp] theorem setRxBuf_op (j : Nat) (b : Byte) (s : State) :
    (State.setRxBuf j b s).op = s.op := rfl
@[simp] theorem setRxBuf_acc (j : Nat) (b : Byte) (s : State) :
    (State.setRxBuf j b s).acc = s.acc := rfl
@[simp] theorem setRxBuf_n (j : Nat) (b : Byte) (s : State) :
    (State.setRxBuf j b s).n = s.n := rfl
@[simp] theorem setRxBuf_i (j : Nat) (b : Byte) (s : State) :
    (State.setRxBuf j b s).i = s.i := rfl
@[simp] theorem setRxBuf_hi (j : Nat) (b : Byte) (s : State) :
    (State.setRxBuf j b s).hi = s.hi := rfl
@[simp] theorem setRxBuf_ra (j : Nat) (b : Byte) (s : State) :
    (State.setRxBuf j b s).ra = s.ra := rfl
@[simp] theorem setRxBuf_rs (j : Nat) (b : Byte) (s : State) :
    (State.setRxBuf j b s).rs = s.rs := rfl
@[simp] theorem setRxBuf_rt (j : Nat) (b : Byte) (s : State) :
    (State.setRxBuf j b s).rt = s.rt := rfl
@[simp] theorem setRxBuf_rc (j : Nat) (b : Byte) (s : State) :
    (State.setRxBuf j b s).rc = s.rc := rfl
@[simp] theorem setRxBuf_pend (j : Nat) (b : Byte) (s : State) :
    (State.setRxBuf j b s).pend = s.pend := rfl
@[simp] theorem setRxBuf_line (j : Nat) (b : Byte) (s : State) :
    (State.setRxBuf j b s).line = s.line := rfl
@[simp] theorem setRxBuf_bus (j : Nat) (b : Byte) (s : State) :
    (State.setRxBuf j b s).bus = s.bus := rfl
@[simp] theorem setRxBuf_moves (j : Nat) (b : Byte) (s : State) :
    (State.setRxBuf j b s).moves = s.moves := rfl
@[simp] theorem setRxBuf_params (j : Nat) (b : Byte) (s : State) :
    (State.setRxBuf j b s).params = s.params := rfl
@[simp] theorem setRxBuf_epoch (j : Nat) (b : Byte) (s : State) :
    (State.setRxBuf j b s).epoch = s.epoch := rfl
@[simp] theorem setRxBuf_draws (j : Nat) (b : Byte) (s : State) :
    (State.setRxBuf j b s).draws = s.draws := rfl

/-! ### storeWord -/

@[simp] theorem storeWord_busy (a : Nat) (v : Word) (s : State) :
    (State.storeWord a v s).busy = s.busy := rfl
@[simp] theorem storeWord_result (a : Nat) (v : Word) (s : State) :
    (State.storeWord a v s).result = s.result := rfl
@[simp] theorem storeWord_wbusy (a : Nat) (v : Word) (s : State) :
    (State.storeWord a v s).wbusy = s.wbusy := rfl
@[simp] theorem storeWord_proto (a : Nat) (v : Word) (s : State) :
    (State.storeWord a v s).proto = s.proto := rfl
@[simp] theorem storeWord_addr (a : Nat) (v : Word) (s : State) :
    (State.storeWord a v s).addr = s.addr := rfl
@[simp] theorem storeWord_seq (a : Nat) (v : Word) (s : State) :
    (State.storeWord a v s).seq = s.seq := rfl
@[simp] theorem storeWord_txctl (a : Nat) (v : Word) (s : State) :
    (State.storeWord a v s).txctl = s.txctl := rfl
@[simp] theorem storeWord_txlen (a : Nat) (v : Word) (s : State) :
    (State.storeWord a v s).txlen = s.txlen := rfl
@[simp] theorem storeWord_txchk (a : Nat) (v : Word) (s : State) :
    (State.storeWord a v s).txchk = s.txchk := rfl
@[simp] theorem storeWord_rxhdr (a : Nat) (v : Word) (s : State) :
    (State.storeWord a v s).rxhdr = s.rxhdr := rfl
@[simp] theorem storeWord_rxinfo (a : Nat) (v : Word) (s : State) :
    (State.storeWord a v s).rxinfo = s.rxinfo := rfl
@[simp] theorem storeWord_errinfo (a : Nat) (v : Word) (s : State) :
    (State.storeWord a v s).errinfo = s.errinfo := rfl
@[simp] theorem storeWord_mem (a : Nat) (v : Word) (s : State) :
    (State.storeWord a v s).mem = (((s.mem.set a (wordByte v 0)).set (a + 1) (wordByte v 1)).set (a + 2) (wordByte v 2)).set (a + 3) (wordByte v 3) := rfl
@[simp] theorem storeWord_st (a : Nat) (v : Word) (s : State) :
    (State.storeWord a v s).st = s.st := rfl
@[simp] theorem storeWord_txl (a : Nat) (v : Word) (s : State) :
    (State.storeWord a v s).txl = s.txl := rfl
@[simp] theorem storeWord_k (a : Nat) (v : Word) (s : State) :
    (State.storeWord a v s).k = s.k := rfl
@[simp] theorem storeWord_op (a : Nat) (v : Word) (s : State) :
    (State.storeWord a v s).op = s.op := rfl
@[simp] theorem storeWord_acc (a : Nat) (v : Word) (s : State) :
    (State.storeWord a v s).acc = s.acc := rfl
@[simp] theorem storeWord_n (a : Nat) (v : Word) (s : State) :
    (State.storeWord a v s).n = s.n := rfl
@[simp] theorem storeWord_i (a : Nat) (v : Word) (s : State) :
    (State.storeWord a v s).i = s.i := rfl
@[simp] theorem storeWord_hi (a : Nat) (v : Word) (s : State) :
    (State.storeWord a v s).hi = s.hi := rfl
@[simp] theorem storeWord_ra (a : Nat) (v : Word) (s : State) :
    (State.storeWord a v s).ra = s.ra := rfl
@[simp] theorem storeWord_rs (a : Nat) (v : Word) (s : State) :
    (State.storeWord a v s).rs = s.rs := rfl
@[simp] theorem storeWord_rt (a : Nat) (v : Word) (s : State) :
    (State.storeWord a v s).rt = s.rt := rfl
@[simp] theorem storeWord_rc (a : Nat) (v : Word) (s : State) :
    (State.storeWord a v s).rc = s.rc := rfl
@[simp] theorem storeWord_pend (a : Nat) (v : Word) (s : State) :
    (State.storeWord a v s).pend = s.pend := rfl
@[simp] theorem storeWord_line (a : Nat) (v : Word) (s : State) :
    (State.storeWord a v s).line = s.line := rfl
@[simp] theorem storeWord_bus (a : Nat) (v : Word) (s : State) :
    (State.storeWord a v s).bus = s.bus := rfl
@[simp] theorem storeWord_moves (a : Nat) (v : Word) (s : State) :
    (State.storeWord a v s).moves = s.moves := rfl
@[simp] theorem storeWord_params (a : Nat) (v : Word) (s : State) :
    (State.storeWord a v s).params = s.params := rfl
@[simp] theorem storeWord_epoch (a : Nat) (v : Word) (s : State) :
    (State.storeWord a v s).epoch = s.epoch := rfl
@[simp] theorem storeWord_draws (a : Nat) (v : Word) (s : State) :
    (State.storeWord a v s).draws = s.draws := rfl

/-! ### resetNow -/

@[simp] theorem resetNow_busy (s : State) :
    (resetNow s).busy = State.reset.busy := rfl
@[simp] theorem resetNow_result (s : State) :
    (resetNow s).result = State.reset.result := rfl
@[simp] theorem resetNow_wbusy (s : State) :
    (resetNow s).wbusy = State.reset.wbusy := rfl
@[simp] theorem resetNow_proto (s : State) :
    (resetNow s).proto = State.reset.proto := rfl
@[simp] theorem resetNow_addr (s : State) :
    (resetNow s).addr = State.reset.addr := rfl
@[simp] theorem resetNow_seq (s : State) :
    (resetNow s).seq = State.reset.seq := rfl
@[simp] theorem resetNow_txctl (s : State) :
    (resetNow s).txctl = State.reset.txctl := rfl
@[simp] theorem resetNow_txlen (s : State) :
    (resetNow s).txlen = State.reset.txlen := rfl
@[simp] theorem resetNow_txchk (s : State) :
    (resetNow s).txchk = State.reset.txchk := rfl
@[simp] theorem resetNow_rxhdr (s : State) :
    (resetNow s).rxhdr = State.reset.rxhdr := rfl
@[simp] theorem resetNow_rxinfo (s : State) :
    (resetNow s).rxinfo = State.reset.rxinfo := rfl
@[simp] theorem resetNow_errinfo (s : State) :
    (resetNow s).errinfo = State.reset.errinfo := rfl
@[simp] theorem resetNow_mem (s : State) :
    (resetNow s).mem = State.reset.mem := rfl
@[simp] theorem resetNow_st (s : State) :
    (resetNow s).st = State.reset.st := rfl
@[simp] theorem resetNow_txl (s : State) :
    (resetNow s).txl = State.reset.txl := rfl
@[simp] theorem resetNow_k (s : State) :
    (resetNow s).k = State.reset.k := rfl
@[simp] theorem resetNow_op (s : State) :
    (resetNow s).op = State.reset.op := rfl
@[simp] theorem resetNow_acc (s : State) :
    (resetNow s).acc = State.reset.acc := rfl
@[simp] theorem resetNow_n (s : State) :
    (resetNow s).n = State.reset.n := rfl
@[simp] theorem resetNow_i (s : State) :
    (resetNow s).i = State.reset.i := rfl
@[simp] theorem resetNow_hi (s : State) :
    (resetNow s).hi = State.reset.hi := rfl
@[simp] theorem resetNow_ra (s : State) :
    (resetNow s).ra = State.reset.ra := rfl
@[simp] theorem resetNow_rs (s : State) :
    (resetNow s).rs = State.reset.rs := rfl
@[simp] theorem resetNow_rt (s : State) :
    (resetNow s).rt = State.reset.rt := rfl
@[simp] theorem resetNow_rc (s : State) :
    (resetNow s).rc = State.reset.rc := rfl
@[simp] theorem resetNow_pend (s : State) :
    (resetNow s).pend = State.reset.pend := rfl
@[simp] theorem resetNow_line (s : State) :
    (resetNow s).line = s.line := rfl
@[simp] theorem resetNow_bus (s : State) :
    (resetNow s).bus = s.bus := rfl
@[simp] theorem resetNow_moves (s : State) :
    (resetNow s).moves = s.moves := rfl
@[simp] theorem resetNow_params (s : State) :
    (resetNow s).params = s.params := rfl
@[simp] theorem resetNow_epoch (s : State) :
    (resetNow s).epoch = s.epoch + 1 := rfl
@[simp] theorem resetNow_draws (s : State) :
    (resetNow s).draws = s.draws := rfl

end Sys2Proof.Machine
end

