-- ==== Sys2Proof/Laws/Ops.lean ====
section
/-! SUPPORT. What the shared operations of Machine/Ops.lean and Machine/Flags.lean do, said once: the buffers (read after write,
the canonical form kept, equal memories are equal data), the busy guard, the transport primitives, the bus. -/

namespace Sys2Proof.Machine

/-! ### Memory -/

@[simp] theorem Memory.get?_nil (a : Nat) : Memory.get? a [] = none := rfl

theorem Memory.get?_cons (a : Nat) (c : Host.Cell) (m : Memory) :
    Memory.get? a (c :: m) = if c.1 = a then some c.2 else Memory.get? a m := rfl

@[simp] theorem Memory.get?_set_self (a : Nat) (b : Byte) (m : Memory) : (m.set a b).get? a = some b := by
  induction m with
  | nil => simp [Memory.set, Memory.get?]
  | cons c m ih =>
    simp only [Memory.set]
    split
    · simp [Memory.get?]
    · split
      · simp [Memory.get?]
      · rename_i h
        simp [Memory.get?, Ne.symm h, ih]

theorem Memory.get?_set_of_ne {a a' : Nat} (h : a ≠ a') (b : Byte) (m : Memory) :
    (m.set a b).get? a' = m.get? a' := by
  induction m with
  | nil => simp [Memory.set, Memory.get?, h]
  | cons c m ih =>
    simp only [Memory.set]
    split
    · simp [Memory.get?, h]
    · split
      · rename_i hc
        subst hc
        simp [Memory.get?, h]
      · simp [Memory.get?, ih]

theorem Memory.get?_set (a a' : Nat) (b : Byte) (m : Memory) :
    (m.set a b).get? a' = if a = a' then some b else m.get? a' := by
  split
  · next h => subst h; simp
  · next h => exact Memory.get?_set_of_ne h b m

theorem Memory.fst_mem_set {x a : Nat} {b : Byte} {m : Memory} (h : x ∈ (m.set a b).map Prod.fst) :
    x = a ∨ x ∈ m.map Prod.fst := by
  induction m with
  | nil => simpa [Memory.set] using h
  | cons c m ih =>
    simp only [Memory.set] at h
    split at h
    · simpa using h
    · split at h
      · simp only [List.map_cons, List.mem_cons] at h ⊢
        tauto
      · simp only [List.map_cons, List.mem_cons] at h ⊢
        rcases h with h | h
        · tauto
        · have := ih h
          tauto

theorem Memory.wf_iff (m : Memory) : m.wf = true ↔
    (m.map Prod.fst).Pairwise (· < ·) ∧ ∀ x ∈ m.map Prod.fst, isBufferOffset x = true := by
  simp [Memory.wf]

theorem Memory.pairwise_set {m : Memory} (a : Nat) (b : Byte) (h : (m.map Prod.fst).Pairwise (· < ·)) :
    ((m.set a b).map Prod.fst).Pairwise (· < ·) := by
  induction m with
  | nil => simp [Memory.set]
  | cons c m ih =>
    simp only [List.map_cons, List.pairwise_cons] at h
    simp only [Memory.set]
    split
    · next hlt =>
      simp only [List.map_cons, List.pairwise_cons, List.mem_cons]
      refine ⟨?_, h⟩
      rintro x (rfl | hx)
      · exact hlt
      · exact lt_trans hlt (h.1 x hx)
    · split
      · next heq =>
        simp only [List.map_cons, List.pairwise_cons, heq]
        exact h
      · next hge hne =>
        simp only [List.map_cons, List.pairwise_cons]
        refine ⟨fun x hx => ?_, ih h.2⟩
        rcases Memory.fst_mem_set hx with rfl | hx
        · omega
        · exact h.1 x hx

/-- A write keeps the canonical form. -/
theorem Memory.wf_set {m : Memory} {a : Nat} (b : Byte) (h : m.wf = true) (ha : isBufferOffset a = true) :
    (m.set a b).wf = true := by
  rw [Memory.wf_iff] at h ⊢
  refine ⟨Memory.pairwise_set a b h.1, fun x hx => ?_⟩
  rcases Memory.fst_mem_set hx with rfl | hx
  · exact ha
  · exact h.2 x hx

theorem Memory.get?_eq_none {m : Memory} {a : Nat} (h : a ∉ m.map Prod.fst) : m.get? a = none := by
  induction m with
  | nil => rfl
  | cons c m ih =>
    simp only [List.map_cons, List.mem_cons, not_or] at h
    simp [Memory.get?, Ne.symm h.1, ih h.2]

/-- Two memories in canonical form that hold the same written bytes are the same data. -/
theorem Memory.ext_of_pairwise {m m' : Memory} (h : (m.map Prod.fst).Pairwise (· < ·))
    (h' : (m'.map Prod.fst).Pairwise (· < ·)) (heq : ∀ a, m.get? a = m'.get? a) : m = m' := by
  induction m generalizing m' with
  | nil =>
    cases m' with
    | nil => rfl
    | cons c _ => simpa [Memory.get?] using heq c.1
  | cons c m ih =>
    cases m' with
    | nil => simpa [Memory.get?] using heq c.1
    | cons d m' =>
      simp only [List.map_cons, List.pairwise_cons] at h h'
      have hc : c.1 = d.1 := by
        by_contra hne
        rcases Nat.lt_or_gt_of_ne hne with hlt | hgt
        · have h1 := heq c.1
          have hn : Memory.get? c.1 m' = none :=
            Memory.get?_eq_none fun hx => absurd (h'.1 c.1 hx) (by omega)
          simp [Memory.get?, Ne.symm hne, hn] at h1
        · have h1 := heq d.1
          have hn : Memory.get? d.1 m = none :=
            Memory.get?_eq_none fun hx => absurd (h.1 d.1 hx) (by omega)
          simp [Memory.get?, hne, hn] at h1
      have hv : c.2 = d.2 := by
        have h1 := heq c.1
        simpa [Memory.get?, hc] using h1
      have hm : m = m' := by
        refine ih h.2 h'.2 fun a => ?_
        by_cases hca : c.1 = a
        · have hn : Memory.get? a m = none :=
            Memory.get?_eq_none fun hx => absurd (h.1 a hx) (by omega)
          have hn' : Memory.get? a m' = none :=
            Memory.get?_eq_none fun hx => absurd (h'.1 a hx) (by omega)
          rw [hn, hn']
        · have h1 := heq a
          simpa [Memory.get?, hca, ← hc] using h1
      rw [hm, Prod.ext hc hv]

/-! ### Buffer bytes -/

theorem byteAt_of_mem_epoch {s t : State} (hm : t.mem = s.mem) (he : t.epoch = s.epoch) (a : Nat) :
    t.byteAt a = s.byteAt a := by
  simp [State.byteAt, hm, he]

theorem byteAt_setRxBuf (j : Nat) (b : Byte) (s : State) (a : Nat) :
    (State.setRxBuf j b s).byteAt a = if rxBase + j = a then b else s.byteAt a := by
  simp only [State.byteAt, setRxBuf_mem, setRxBuf_epoch, Memory.get?_set]
  split <;> rfl

theorem byteAt_storeWord (a : Nat) (v : Word) (s : State) (x : Nat) :
    (State.storeWord a v s).byteAt x =
      if x = a + 3 then wordByte v 3 else if x = a + 2 then wordByte v 2
      else if x = a + 1 then wordByte v 1 else if x = a then wordByte v 0 else s.byteAt x := by
  simp only [State.byteAt, storeWord_mem, storeWord_epoch, Memory.get?_set, eq_comm (a := x)]
  repeat' split
  all_goals rfl

theorem isBufferOffset_iff (a : Nat) : isBufferOffset a = true ↔ 0x100 ≤ a ∧ a < 0x300 := by
  simp only [isBufferOffset, Bool.and_eq_true, decide_eq_true_eq]
  rfl

theorem mem_wf_storeWord {s : State} (w : Fin 64) (v : Word) (h : s.mem.wf = true) :
    (State.storeWord (txWordBase w) v s).mem.wf = true := by
  have hw := w.isLt
  have hb : ∀ j, j < 4 → isBufferOffset (txWordBase w + j) = true := fun j hj => by
    rw [isBufferOffset_iff]
    simp only [txWordBase, txBase]
    omega
  simp only [storeWord_mem]
  exact Memory.wf_set _ (Memory.wf_set _ (Memory.wf_set _ (Memory.wf_set _ h (by simpa using hb 0 (by omega)))
    (hb 1 (by omega))) (hb 2 (by omega))) (hb 3 (by omega))

theorem mem_wf_setRxBuf {s : State} {j : Nat} (b : Byte) (hj : j < Config.bufSize) (h : s.mem.wf = true) :
    (State.setRxBuf j b s).mem.wf = true := by
  simp only [setRxBuf_mem]
  refine Memory.wf_set _ h ?_
  rw [isBufferOffset_iff]
  simp only [Config.bufSize, rxBase] at hj ⊢
  omega

/-! ### The busy guard -/

@[simp] theorem whileIdle_of_idle {s : State} (h : s.busy = false) (f : State → State) : whileIdle f s = f s := by
  simp [whileIdle, h]

@[simp] theorem whileIdle_of_busy {s : State} (h : s.busy = true) (f : State → State) :
    whileIdle f s = { s with wbusy := true } := by
  simp [whileIdle, h]

/-- Everything the guard can do (R60). -/
theorem whileIdle_cases (f : State → State) (s : State) :
    (s.busy = false ∧ whileIdle f s = f s) ∨ (s.busy = true ∧ whileIdle f s = { s with wbusy := true }) := by
  by_cases h : s.busy = true
  · exact .inr ⟨h, whileIdle_of_busy h f⟩
  · exact .inl ⟨by simpa using h, whileIdle_of_idle (by simpa using h) f⟩

/-! ### The transport -/

/-- Everything `Send` can do: it changes `line.sendAnswers`, `line.sent` and `draws` alone. -/
theorem send_spec (b : Byte) (s : State) :
    ∃ as d, (s.send b).2 = { s with draws := d, line := { s.line with
      sendAnswers := as, sent := if (s.send b).1 = .wok then s.line.sent ++ [b] else s.line.sent } } := by
  unfold State.send
  split
  · next r rs _ => exact ⟨rs, s.draws, rfl⟩
  · next h => exact ⟨[], s.draws + 1, by simp [h]⟩

theorem send_of_answer {s : State} {r : SendResult} {rs : List SendResult} (b : Byte)
    (h : s.line.sendAnswers = r :: rs) :
    s.send b = (r, { s with line := { s.line with
      sendAnswers := rs, sent := if r = .wok then s.line.sent ++ [b] else s.line.sent } }) := by
  simp [State.send, h]

/-- Everything `Recv` can do: it changes `line.held`, `line.recvAnswers` and `draws` alone. -/
theorem recv_spec (s : State) :
    ∃ hs as d, s.recv.2 = { s with draws := d, line := { s.line with held := hs, recvAnswers := as } } := by
  unfold State.recv
  split
  · next b bs _ => exact ⟨bs, s.line.recvAnswers, s.draws, rfl⟩
  · next h =>
    split
    · next r rs _ => exact ⟨[], rs, s.draws, by rw [← h]⟩
    · next h' => exact ⟨[], [], s.draws + 1, by rw [← h, ← h']⟩

theorem recv_of_held {s : State} {b : Byte} {bs : List Byte} (h : s.line.held = b :: bs) :
    s.recv = (.rbyte b, { s with line := { s.line with held := bs } }) := by
  simp [State.recv, h]

theorem recv_of_answer {s : State} {r : RecvResult} {rs : List RecvResult} (h : s.line.held = [])
    (h' : s.line.recvAnswers = r :: rs) :
    s.recv = (r, { s with line := { s.line with recvAnswers := rs } }) := by
  simp [State.recv, h, h']

/-! ### The bus -/

@[simp] theorem accessTarget_w8 (a : Offset) : accessTarget a .w8 = none := rfl
@[simp] theorem accessTarget_w16 (a : Offset) : accessTarget a .w16 = none := rfl
@[simp] theorem accessTarget_w32 (a : Offset) : accessTarget a .w32 = Target.ofOffset a := rfl

theorem memRead_of_target {a : Offset} {w : Width} {t : Target} (s : State) (h : accessTarget a w = some t) :
    memRead s a w = { data := readTarget s t, err := false } := by
  simp [memRead, h]

theorem memRead_of_none {a : Offset} {w : Width} (s : State) (h : accessTarget a w = none) :
    memRead s a w = { data := 0, err := true } := by
  simp [memRead, h]

theorem hostWrite_of_none {a : Offset} {w : Width} (v : Word) (s : State) (h : accessTarget a w = none) :
    hostWrite a w v s = .next (s.answer (writeAnswer true)) := by
  simp [hostWrite, h]

theorem hostWrite_of_cmd {a : Offset} {w : Width} (v : Word) (s : State) (h : accessTarget a w = some (.reg .cmd)) :
    hostWrite a w v s = issue v (s.answer (writeAnswer false)) := by
  simp [hostWrite, h]

theorem hostWrite_of_target {a : Offset} {w : Width} {t : Target} (v : Word) (s : State)
    (h : accessTarget a w = some t) (ht : t ≠ .reg .cmd) :
    hostWrite a w v s = .next (writeTarget v t (s.answer (writeAnswer false))) := by
  unfold hostWrite
  rw [h]
  split
  · next h' => exact absurd (Option.some.inj h') ht
  · next h' => rw [Option.some.inj h']
  · next h' => cases h'

theorem issue_of_ok {v : Word} {i : Instr} (s : State) (h : decode v = .ok i) : issue v s = exec i s := by
  simp [issue, h]

theorem issue_of_error {v : Word} {e : DecodeError} (s : State) (h : decode v = .error e) :
    issue v s = execReserved s := by
  simp [issue, h]

/-- Everything a host write can do (R52 to R60, R80). -/
theorem hostWrite_cases (a : Offset) (w : Width) (v : Word) (s : State) :
    (accessTarget a w = none ∧ hostWrite a w v s = .next (s.answer (writeAnswer true))) ∨
    (accessTarget a w = some (.reg .cmd) ∧ hostWrite a w v s = issue v (s.answer (writeAnswer false))) ∨
    (∃ t, accessTarget a w = some t ∧ t ≠ .reg .cmd ∧
      hostWrite a w v s = .next (writeTarget v t (s.answer (writeAnswer false)))) := by
  unfold hostWrite
  split
  · next h => exact .inr (.inl ⟨h, rfl⟩)
  · next t hn h => exact .inr (.inr ⟨t, h, hn, rfl⟩)
  · next h => exact .inl ⟨h, rfl⟩

end Sys2Proof.Machine
end

