-- ==== Sys2Proof/Laws/Operands.lean ====
section
/-! SUPPORT. The small lemmas of the codec functions of Machine/Operands.lean: how each goes over a list, and lengths. -/

namespace Sys2Proof.Machine

@[simp] theorem escA_nil : escA [] = [] := rfl
@[simp] theorem escA_cons (b : Byte) (d : List Byte) : escA (b :: d) = escByteA b ++ escA d := by
  simp [escA]
theorem escA_append (c d : List Byte) : escA (c ++ d) = escA c ++ escA d := by
  simp [escA]

theorem escByteA_of_dle {b : Byte} (h : b = DLE) : escByteA b = [DLE, DLE] := by simp [escByteA, h]
theorem escByteA_of_ne {b : Byte} (h : b ≠ DLE) : escByteA b = [b] := by simp [escByteA, h]

@[simp] theorem stuffB_nil : stuffB [] = [] := rfl
@[simp] theorem stuffB_cons (x : Byte) (xs : List Byte) : stuffB (x :: xs) = escB x ++ stuffB xs := by
  simp [stuffB]
theorem stuffB_append (xs ys : List Byte) : stuffB (xs ++ ys) = stuffB xs ++ stuffB ys := by
  simp [stuffB]

/-- A byte is sent as itself unless it is one of the three reserved values (R189). -/
theorem escB_cases (x : Byte) :
    (x = ESC ∧ escB x = [ESC, 0x00]) ∨ (x = START ∧ escB x = [ESC, 0x01]) ∨ (x = STOP ∧ escB x = [ESC, 0x02]) ∨
      (x ≠ ESC ∧ x ≠ START ∧ x ≠ STOP ∧ escB x = [x]) := by
  unfold escB
  split
  · exact .inl ⟨‹_›, rfl⟩
  · split
    · exact .inr (.inl ⟨‹_›, rfl⟩)
    · split
      · exact .inr (.inr (.inl ⟨‹_›, rfl⟩))
      · exact .inr (.inr (.inr ⟨‹_›, ‹_›, ‹_›, rfl⟩))

@[simp] theorem length_csumDigits (c : Byte) : (csumDigits c).length = 2 := rfl
@[simp] theorem length_ackFrame : ackFrame.length = 5 := rfl
@[simp] theorem length_postamble (a : Half) : (postamble a).length = if a.getLsbD 15 then 64 else 0 := by
  unfold postamble
  split <;> simp [Config.postambleLen]
@[simp] theorem length_payload (s : State) : s.payload.length = s.txlen.toNat := by
  simp [State.payload]
@[simp] theorem length_withCrc (r : Bool) (b : List Byte) : (withCrc r b).length = b.length + 2 := by
  simp [withCrc]
@[simp] theorem length_wrapB (r : Bool) (b : List Byte) : (wrapB r b).length = (stuffB (withCrc r b)).length + 2 := by
  simp [wrapB]

@[simp] theorem bodySum_nil (t n : Byte) : bodySum t n [] = addByte (addByte 0 t) n := rfl
theorem bodySum_append (t n : Byte) (c d : List Byte) : bodySum t n (c ++ d) = d.foldl addByte (bodySum t n c) := by
  simp [bodySum]
theorem bodySum_concat (t n : Byte) (d : List Byte) (b : Byte) :
    bodySum t n (d ++ [b]) = addByte (bodySum t n d) b := by
  simp [bodySum]

theorem crc16B_append (r : Bool) (xs ys : List Byte) :
    crc16B r (xs ++ ys) = ys.foldl (crcByte r) (xs.foldl (crcByte r) Config.crcSeed) ^^^ Config.crcXorOut := by
  simp [crc16B]

@[simp] theorem destuffB_nil : destuffB [] = some [] := by simp [destuffB]

theorem destuffB_escape (z : Byte) (ys : List Byte) :
    destuffB (ESC :: z :: ys) = (unescB z).bind fun x => (destuffB ys).map (x :: ·) := by
  rw [destuffB]
  simp only [show ¬(ESC = START ∨ ESC = STOP) by decide, if_false, if_true]
  cases unescB z <;> rfl

theorem destuffB_plain {y : Byte} (h1 : y ≠ START) (h2 : y ≠ STOP) (h3 : y ≠ ESC) (ys : List Byte) :
    destuffB (y :: ys) = (destuffB ys).map (y :: ·) := by
  cases ys with
  | nil => simp [destuffB, h1, h2, h3]
  | cons z ys => rw [destuffB]; simp [h1, h2, h3]

end Sys2Proof.Machine
end

