-- ==== Sys2Proof/Laws/PerInstr.lean ====
section
/-! SUPPORT. One statement for each command, by constructor. Family OpByte: every CMD word whose low byte is the command's OP
decodes to the command, whatever bits [31:8] hold (spec/30_encoding.md R81, R83). -/

namespace Sys2Proof.Laws

/-- The low byte selects the command. -/
def OpByte.Statement (i : Instr) : Prop := ∀ v : Word, opField v = i.op → decode v = .ok i

theorem OpByte.txA : OpByte.Statement .txA := fun v h => by simp [decode, h, Instr.op, decodeOp]
theorem OpByte.rxA : OpByte.Statement .rxA := fun v h => by simp [decode, h, Instr.op, decodeOp]
theorem OpByte.ackA : OpByte.Statement .ackA := fun v h => by simp [decode, h, Instr.op, decodeOp]
theorem OpByte.seqReset : OpByte.Statement .seqReset := fun v h => by simp [decode, h, Instr.op, decodeOp]
theorem OpByte.txB : OpByte.Statement .txB := fun v h => by simp [decode, h, Instr.op, decodeOp]
theorem OpByte.rxB : OpByte.Statement .rxB := fun v h => by simp [decode, h, Instr.op, decodeOp]

end Sys2Proof.Laws
end

