-- ==== Sys2Proof/Laws/Step.lean ====
section
/-! SUPPORT. What `exec`, `engineStep` and `step` can do, said once: each command through the busy guard, each engine state's
step, each move. Provers cite these instead of unfolding. -/

namespace Sys2Proof.Machine

/-! ### Commands -/

@[simp] theorem exec_txA (s : State) : exec .txA s = .next (whileIdle acceptTxA s) := rfl
@[simp] theorem exec_rxA (s : State) : exec .rxA s = .next (whileIdle acceptRxA s) := rfl
@[simp] theorem exec_ackA (s : State) : exec .ackA s = .next (whileIdle acceptAckA s) := rfl
@[simp] theorem exec_seqReset (s : State) : exec .seqReset s = .next (whileIdle acceptSeqReset s) := rfl
@[simp] theorem exec_txB (s : State) : exec .txB s = .next (whileIdle acceptTxB s) := rfl
@[simp] theorem exec_rxB (s : State) : exec .rxB s = .next (whileIdle acceptRxB s) := rfl
@[simp] theorem execReserved_eq (s : State) : execReserved s = .next (whileIdle (finish .unsupported) s) := rfl

/-- Everything TX_A's acceptance can do (R110). -/
theorem acceptTxA_cases (s : State) :
    (40 < s.txlen.toNat ∧ acceptTxA s = finish .invalidArgument s) ∨
    (s.txlen.toNat ≤ 40 ∧ s.proto = .b ∧ acceptTxA s = finish .unsupported s) ∨
    (s.txlen.toNat ≤ 40 ∧ s.proto = .a ∧ acceptTxA s =
      { start 0x01 .txASend s with
        txchk := (csumA s.txctl.mtype s.payload).setWidth 16, txl := s.frameTxA, k := 0 }) := by
  unfold acceptTxA
  simp only [Config.aMaxLen]
  split
  · exact .inl ⟨‹_›, rfl⟩
  · next h =>
    cases hp : s.proto
    · exact .inr (.inr ⟨by omega, rfl, by simp⟩)
    · exact .inr (.inl ⟨by omega, rfl, by simp⟩)

/-- Everything ACK_A's acceptance can do (R111). -/
theorem acceptAckA_cases (s : State) :
    (s.proto = .b ∧ acceptAckA s = finish .unsupported s) ∨
    (s.proto = .a ∧ acceptAckA s = { start 0x03 .txAckSend s with txl := ackFrame, k := 0 }) := by
  cases hp : s.proto <;> simp [acceptAckA, hp]

/-- Everything RX_A's acceptance can do (R140). -/
theorem acceptRxA_cases (s : State) :
    ((s.nr = true ∨ s.proto = .b) ∧ acceptRxA s = finish .unsupported s) ∨
    (s.nr = false ∧ s.proto = .a ∧ acceptRxA s = { start 0x02 .rxWaitSyn s with acc := 0, i := 0, n := 0 }) := by
  unfold acceptRxA
  cases hn : s.nr <;> cases hp : s.proto <;> simp

/-- Everything TX_B's acceptance can do (R200). -/
theorem acceptTxB_cases (s : State) :
    (254 < s.mflTxB ∧ acceptTxB s = finish .invalidArgument s) ∨
    (s.mflTxB ≤ 254 ∧ s.proto = .a ∧ acceptTxB s = finish .unsupported s) ∨
    (s.mflTxB ≤ 254 ∧ s.proto = .b ∧ acceptTxB s =
      { start 0x11 .txBSend s with txchk := s.crcTxB, txl := s.frameTxB, k := 0 }) := by
  unfold acceptTxB
  simp only [Config.bMaxMfl]
  split
  · exact .inl ⟨‹_›, rfl⟩
  · next h =>
    cases hp : s.proto
    · exact .inr (.inl ⟨by omega, rfl, by simp⟩)
    · exact .inr (.inr ⟨by omega, rfl, by simp⟩)

/-! ### The engine -/

theorem engineStep_of_idle {s : State} (h : s.st = .idle) : engineStep s = .next s := by
  simp [engineStep, h]

theorem engineStep_of_sending {s : State} (h : s.st.sending = true) : engineStep s = txStep s := by
  unfold engineStep
  cases hs : s.st <;> simp_all [EngineState.sending]

theorem engineStep_of_receiving {s : State} (h : s.st.receiving = true) : engineStep s = .next (rxStep s) := by
  unfold engineStep
  cases hs : s.st <;> simp_all [EngineState.receiving]

theorem engineStep_of_finish {s : State} (h : s.st = .rxFinish) : engineStep s = .next (rxFinishStep s) := by
  simp [engineStep, h]

/-- The engine is in IDLE, sends, receives, or finishes a receive (R38). -/
theorem engineState_cases (e : EngineState) :
    e = .idle ∨ e.sending = true ∨ e.receiving = true ∨ e = .rxFinish := by
  cases e <;> simp [EngineState.sending, EngineState.receiving]

theorem txStep_of_byte {s : State} {b : Byte} (h : s.txl[s.k.toNat]? = some b) :
    txStep s = .next (txVerdict b (s.send b).1 (s.send b).2) := by
  simp [txStep, h]

theorem txStep_of_none {s : State} (h : s.txl[s.k.toNat]? = none) : txStep s = .fault .noByteToSend := by
  simp [txStep, h]

theorem rxStep_of_byte {s t : State} {b : Byte} (h : s.recv = (.rbyte b, t)) : rxStep s = rxByte b t := by
  simp [rxStep, h]

theorem rxStep_of_timeout {s t : State} (h : s.recv = (.rtimeout, t)) :
    rxStep s = rxFail .timeout t.st.code .timeout 0 0 t := by
  simp [rxStep, h]

theorem rxStep_of_ioerr {s t : State} (h : s.recv = (.rioerr, t)) :
    rxStep s = rxFail .ioFailure t.st.code .io 0 0 t := by
  simp [rxStep, h]

theorem expectByte_of_eq {want b : Byte} (h : b = want) (next : EngineState) (s : State) :
    expectByte want next b s = { s with st := next } := by
  simp [expectByte, h]

theorem expectByte_of_ne {want b : Byte} (h : b ≠ want) (next : EngineState) (s : State) :
    expectByte want next b s = viol .unexpected b 0 s := by
  simp [expectByte, h]

/-! ### Moves -/

theorem step_of_nil {s : State} (h : s.moves = []) : step s = engineStep s := by
  simp [step, h]

theorem step_of_engine {s : State} {ms : List Move} (h : s.moves = .engine :: ms) :
    step s = engineStep { s with moves := ms } := by
  simp [step, h, State.dropMove]

theorem step_of_host {s : State} {x : Access} {ms : List Move} (h : s.moves = .host x :: ms) :
    step s = hostAccess x { s with moves := ms } := by
  simp [step, h, State.dropMove]

theorem step_of_poll {s : State} {ms : List Move} (h : s.moves = .poll :: ms) :
    step s = .next (poll { s with moves := ms }) := by
  simp [step, h, State.dropMove]

theorem step_of_arrive {s : State} {b : Byte} {ms : List Move} (h : s.moves = .arrive b :: ms) :
    step s = .next (State.arrive b { s with moves := ms }) := by
  simp [step, h, State.dropMove]

theorem step_of_reset {s : State} {ms : List Move} (h : s.moves = .reset :: ms) :
    step s = .next (resetNow { s with moves := ms }) := by
  simp [step, h, State.dropMove]

/-- Everything a step can do: which agent moves, and from which state. -/
theorem step_cases (s : State) :
    (s.moves = [] ∧ step s = engineStep s) ∨
    (∃ ms, s.moves = .engine :: ms ∧ step s = engineStep { s with moves := ms }) ∨
    (∃ x ms, s.moves = .host x :: ms ∧ step s = hostAccess x { s with moves := ms }) ∨
    (∃ ms, s.moves = .poll :: ms ∧ step s = .next (poll { s with moves := ms })) ∨
    (∃ b ms, s.moves = .arrive b :: ms ∧ step s = .next (State.arrive b { s with moves := ms })) ∨
    (∃ ms, s.moves = .reset :: ms ∧ step s = .next (resetNow { s with moves := ms })) := by
  match h : s.moves with
  | [] => exact .inl ⟨rfl, step_of_nil h⟩
  | .engine :: ms => exact .inr (.inl ⟨ms, rfl, step_of_engine h⟩)
  | .host x :: ms => exact .inr (.inr (.inl ⟨x, ms, rfl, step_of_host h⟩))
  | .poll :: ms => exact .inr (.inr (.inr (.inl ⟨ms, rfl, step_of_poll h⟩)))
  | .arrive b :: ms => exact .inr (.inr (.inr (.inr (.inl ⟨b, ms, rfl, step_of_arrive h⟩))))
  | .reset :: ms => exact .inr (.inr (.inr (.inr (.inr ⟨ms, rfl, step_of_reset h⟩))))

/-! ### Runs -/

@[simp] theorem runSteps_zero (s : State) : runSteps 0 s = .next s := rfl

theorem runSteps_succ {s t : State} (m : Nat) (h : step s = .next t) : runSteps (m + 1) s = runSteps m t := by
  simp only [runSteps, Host.Core.run]
  rw [show Sys2Proof.core.step s = .next t from h]

/-- A run of `m + m'` steps is a run of `m` steps and then one of `m'`. -/
theorem runSteps_add {s t : State} (m m' : Nat) (h : runSteps m s = .next t) :
    runSteps (m + m') s = runSteps m' t := by
  induction m generalizing s with
  | zero => simp only [runSteps_zero] at h; cases h; simp
  | succ m ih =>
    match hs : step s with
    | .next u =>
      rw [runSteps_succ m hs] at h
      rw [show m + 1 + m' = (m + m') + 1 by omega, runSteps_succ _ hs]
      exact ih h
    | .fault r =>
      simp only [runSteps, Host.Core.run] at h
      rw [show Sys2Proof.core.step s = .fault r from hs] at h
      cases h
    | .refused r =>
      simp only [runSteps, Host.Core.run] at h
      rw [show Sys2Proof.core.step s = .refused r from hs] at h
      cases h

/-- What every step keeps, every run keeps. -/
theorem runSteps_keeps {P : State → Prop} (hP : ∀ s t, P s → step s = .next t → P t) {m : Nat} {s t : State}
    (hs : P s) (h : runSteps m s = .next t) : P t := by
  induction m generalizing s with
  | zero => simp only [runSteps_zero] at h; cases h; exact hs
  | succ m ih =>
    match hst : step s with
    | .next u =>
      rw [runSteps_succ m hst] at h
      exact ih (hP s u hs hst) h
    | .fault r =>
      simp only [runSteps, Host.Core.run] at h
      rw [show Sys2Proof.core.step s = .fault r from hst] at h
      cases h
    | .refused r =>
      simp only [runSteps, Host.Core.run] at h
      rw [show Sys2Proof.core.step s = .refused r from hst] at h
      cases h

end Sys2Proof.Machine
end

