-- ==== Sys2Proof/Tests/Slice0.lean ====
section
/-! SUPPORT. Small tests with results from the spec's own examples and vectors (spec/95_test_vectors.md), and for each statement
with hypotheses a witness that meets them together, one per clause. -/

namespace Sys2Proof.Machine

/-! ### Sample states -/

/-- A block whose parameters are known: reflected CRC, seven sample codes as the global set (sample data, not the spec's). -/
def sample : State :=
  { State.reset with
    params := { crcBReflect := true, globalMec := ⟨0x0D, 0x19, 0x1C, 0x1E, 0x23, 0x27, 0x2C⟩ } }

/-- The payload `41 42 43` in TXBUF. -/
def sampleMem : Memory := [(0x100, 0x41), (0x101, 0x42), (0x102, 0x43)]

/-- Vector A2's registers. -/
def sampleA : State :=
  { sample with
    addr := 0x0012, seq := 3, mem := sampleMem, txlen := 3
    txctl := { mtype := 0x02, dsn := 0, psn := 0, melNa := false } }

/-- Vector B1's registers. -/
def sampleB : State :=
  { sample with
    proto := .b, addr := 0x0001, mem := sampleMem, txlen := 3
    txctl := { mtype := 0x02, dsn := 0, psn := 0, melNa := false } }

/-- A block whose next move is one host write. -/
def writing (s : State) (a : Offset) (v : Word) : State := { s with moves := [.host (.write a .w32 v)] }

/-- A block whose next move is one host read. -/
def reading (s : State) (a : Offset) : State := { s with moves := [.host (.read a .w32)] }

/-- A block in an engine state, with bytes held by the transport. -/
def running (e : EngineState) (held : List Byte) : State :=
  { sample with
    busy := true, st := e, op := e.runningOp, txl := ackFrame, line := { sample.line with held := held } }

/-- The next state, or the state itself where the machine stops. -/
def after (o : Host.Outcome State Fault Refusal) (s : State) : State :=
  match o with
  | .next t => t
  | .fault _ | .refused _ => s

/-! ### WellFormed: each check refuses an ill-formed term -/

theorem test_wf_width : (Access.read 0x100 .w8).wf = false := by decide
theorem test_wf_aligned : (Access.write 0x00E .w32 5).wf = false := by decide
theorem test_wf_mapped_low : (Access.read 0x02C .w32).wf = false := by decide
theorem test_wf_mapped_high : (Access.read 0x300 .w32).wf = false := by decide
theorem test_wf_good : (Access.write 0x2FC .w32 5).wf = true := by decide
theorem test_wf_loadTx : (HostOp.loadTx (List.replicate 256 0)).wf = false := by decide +kernel
theorem test_wf_instr : Instr.txA.wf = true := by decide

/-! ### Decoding: the words of R81 -/

theorem test_decode_txA : decode 0b00000000000000000000000000000001#32 = .ok .txA := by decide
theorem test_decode_rxA : decode 0b00000000000000000000000000000010#32 = .ok .rxA := by decide
theorem test_decode_ackA : decode 0b00000000000000000000000000000011#32 = .ok .ackA := by decide
theorem test_decode_seqReset : decode 0b00000000000000000000000000000100#32 = .ok .seqReset := by decide
theorem test_decode_txB : decode 0b00000000000000000000000000010001#32 = .ok .txB := by decide
theorem test_decode_rxB : decode 0b00000000000000000000000000010010#32 = .ok .rxB := by decide
theorem test_decode_reserved : decode 0x00000005 = .error (.reservedOp 0x05) := by decide
theorem test_decode_ignored_bits : decode 0xFFFFFF04 = .ok .seqReset := by decide
theorem test_decode_table : decodeTableWord 32 0x11 = some .txB := by decide
theorem test_decode_table_byte : decodeTableWord 8 0x12 = some .rxB := by decide
theorem test_decode_table_reserved : decodeTableWord 32 0x13 = none := by decide
theorem test_offset_txbuf_last : Target.ofOffset 0x1FC = some (.txWord 63) := by decide
theorem test_offset_unmapped : Target.ofOffset 0x02C = none := by decide

/-- R88's examples: `WR ADDR, 0x1234` is `W 0x00C 0x00001234`, `RD STATUS` is `R 0x004`. -/
theorem test_expand_wr : (HostOp.wr .addr 0x1234).expand = [.host (.write 0x00C .w32 0x00001234)] := by decide
theorem test_expand_rd : (HostOp.rd .status).expand = [.host (.read 0x004 .w32)] := by decide
/-- P1 line 4: `LOADTX 0x41, 0x42`. -/
theorem test_expand_loadTx : (HostOp.loadTx [0x41, 0x42]).expand =
    [.host (.write 0x100 .w32 0x00004241), .host (.write 0x018 .w32 0x00000002)] := by decide
/-- P2 line 3: `SETB 0x02, 0, 0, 0`; and MEL_NA at bit 24. -/
theorem test_expand_setB : (HostOp.setB 0x02 0x05 0x06 true).expand =
    [.host (.write 0x014 .w32 0x01060502)] := by decide

/-! ### The first step after reset runs the placed command -/

theorem test_fetch_txA :
    (after (step (State.reset.withFetchWord 32 0x01)) sample).st = .txASend := by decide
theorem test_fetch_rxA : (after (step (State.reset.withFetchWord 32 0x02)) sample).st = .rxWaitSyn := by decide
theorem test_fetch_ackA : (after (step (State.reset.withFetchWord 32 0x03)) sample).st = .txAckSend := by decide
theorem test_fetch_rxB : (after (step (State.reset.withFetchWord 32 0x12)) sample).result = .unsupported := by decide

/-! ### Commands, from the vectors -/

/-- A2. -/
theorem test_txA_frame : (after (exec .txA sampleA) sample).txl =
    [0x16, 0x16, 0x01, 0x00, 0x12, 0x33, 0x10, 0x02, 0x02, 0x03, 0x41, 0x42, 0x43, 0x10, 0x03, 0x43, 0x42, 0x16] ∧
    (after (exec .txA sampleA) sample).txchk = 0x00CB := by decide
/-- A7. -/
theorem test_txA_too_long : statusWord (after (exec .txA { sampleA with txlen := 41 }) sample) = 0x60 := by decide
/-- A3: the data DLE is doubled and summed once. -/
theorem test_frameA_dle : frameA 0x0001 0 0x01 [0x10, 0x20] =
    [0x16, 0x16, 0x01, 0x00, 0x01, 0x30, 0x10, 0x02, 0x01, 0x02, 0x10, 0x10, 0x20, 0x10, 0x03, 0x33, 0x33, 0x16] := by
  decide
/-- B1, both bit orders. -/
theorem test_txB_frame : wrapB true (bodyB false 0x0001 0x02 0 0 false [0x41, 0x42, 0x43]) =
    [0xFE, 0x00, 0x01, 0x00, 0x07, 0x02, 0x00, 0x00, 0x03, 0x41, 0x42, 0x43, 0xF4, 0x68, 0xFF] ∧
    crc16B false (bodyB false 0x0001 0x02 0 0 false [0x41, 0x42, 0x43]) = 0x4106 := by decide +kernel
/-- B6: stuffing of address and data. -/
theorem test_stuff_b6 : wrapB true (bodyB false 0xFEFF 0x02 0 0 false [0xFD, 0xFE, 0xFF]) =
    [0xFE, 0xFD, 0x01, 0xFD, 0x02, 0x00, 0x07, 0x02, 0x00, 0x00, 0x03, 0xFD, 0x00, 0xFD, 0x01, 0xFD, 0x02, 0xBE, 0x3D,
      0xFF] := by decide +kernel
/-- B5: a global MEC without element length. -/
theorem test_txB_global : (after (exec .txB { sampleB with
    txlen := 0, txctl := { mtype := 0x1E, dsn := 0, psn := 0, melNa := true } }) sample).txl =
    [0xFE, 0x00, 0x01, 0x00, 0x01, 0x1E, 0x33, 0xEB, 0xFF] := by decide +kernel
/-- X14 and X14b. -/
theorem test_rxA_refused : statusWord (after (exec .rxA { sampleA with addr := 0x8001 }) sample) = 0x50 ∧
    statusWord (after (exec .rxA sampleB) sample) = 0x50 := by decide
/-- K1: the acknowledge frame. -/
theorem test_ackA_frame : (after (exec .ackA sampleA) sample).txl = [0x16, 0x16, 0x06, 0x16, 0x00] ∧
    (after (exec .ackA sampleA) sample).seq = 3 := by decide
/-- K6. -/
theorem test_seqReset : (after (exec .seqReset { sampleB with seq := 7 }) sample).seq = 0 ∧
    statusWord (after (exec .seqReset { sampleB with seq := 7 }) sample) = 0x10 := by decide
/-- B14. -/
theorem test_rxB : statusWord (after (exec .rxB sampleB) sample) = 0x50 := by decide

/-! ### Engine steps, from the vectors -/

/-- A9: the first `Send` fails. -/
theorem test_txStep_ioerr : errinfoWord (after (engineStep { running .txASend [] with
    line := { sample.line with sendAnswers := [.wioerr] } }) sample).errinfo = 0x000016D8 := by decide
/-- X11: a NAK in place of ACK reports code 3. -/
theorem test_rxSkip_nak : errinfoWord (after (engineStep (running .rxSkipExtraSyns [0x15])) sample).errinfo =
    0x00001523 := by decide
/-- X9: a length of 41. -/
theorem test_rxLen_41 : errinfoWord (after (engineStep (running .rxReadLen [0x29])) sample).errinfo = 0x0000298E := by
  decide
/-- X7: a wrong second digit. -/
theorem test_rxCsum_mismatch : errinfoWord (after (engineStep { running .rxReadCsumLo [0x30] with
    hi := 8, acc := 0x008A }) sample).errinfo = 0x008A8074 := by decide
/-- X13: the received no-reply bit reaches ADDR. -/
theorem test_rxFinish_merge : (after (engineStep { running .rxFinish [0x01] with pend := .ok, ra := 0x8001 })
    sample).addr = 0x8000 := by decide
/-- D5, D7. -/
theorem test_destuff : destuffB [0xFD, 0x03] = none ∧ destuffB [0x00, 0xFD, 0x00, 0xFD, 0x01, 0xFD, 0x02] =
    some [0x00, 0xFD, 0xFE, 0xFF] := by decide

/-! ### The bus, from the vectors -/

/-- C14. -/
theorem test_bus_reserved_bits : readReg (after (step (writing sample 0x008 0xFFFFFFFF)) sample) .cfg = 1 := by decide
/-- C15. -/
theorem test_bus_txbuf : (after (step (writing sample 0x100 0x44332211)) sample).mem =
    [(0x100, 0x11), (0x101, 0x22), (0x102, 0x33), (0x103, 0x44)] := by decide
/-- C7. -/
theorem test_bus_busy : (after (step (writing (running .txASend []) 0x018 5)) sample).wbusy = true ∧
    (after (step (writing (running .txASend []) 0x018 5)) sample).txlen = 0 := by decide
/-- C11. -/
theorem test_bus_unmapped : (after (step (reading sample 0x02C)) sample).bus = { data := 0, err := true } := by decide

/-! ### Witnesses: the hypotheses of each statement are met together -/

/-- A legal state while an acknowledge is sent, its answers scripted. -/
def sending : State :=
  { running .txAckSend [] with line := { sample.line with sendAnswers := [.wok, .wtimeout] } }

theorem sending_inv : sending.Inv where
  memWf := by decide
  rxBufTail := fun _ _ _ => rfl
  seqLegal := by decide
  busyIff := by decide
  busyResult := by decide
  opRunning := by decide
  sendIndex := by decide
  dataCount := by decide
  trailerCount := by decide
  sumType := by decide
  sumData := by decide
  sumMatches := by decide
  pendLegal := by decide
  errClear := by decide
  errPending := by decide
  errReported := by decide
  rxLenLegal := by decide

/-- A legal state that reads the second digit of a reply of type 5 without data. -/
def atDigit : State :=
  { running .rxReadCsumLo [0x35] with rt := 0x05, acc := 0x0005 }

theorem atDigit_inv : atDigit.Inv where
  memWf := by decide
  rxBufTail := fun _ _ _ => rfl
  seqLegal := by decide
  busyIff := by decide
  busyResult := by decide
  opRunning := by decide
  sendIndex := by decide
  dataCount := by decide
  trailerCount := by decide
  sumType := by decide
  sumData := by decide
  sumMatches := by decide
  pendLegal := by decide
  errClear := by decide
  errPending := by decide
  errReported := by decide
  rxLenLegal := by decide

theorem witness_ResetInput : ({ sending with moves := [.reset] } : State).moves = .reset :: [] := rfl
theorem witness_StepKeepsLegalState : ∃ s t : State, s.Inv ∧ step s = .next t := ⟨sending, _, sending_inv, rfl⟩
theorem witness_LegalRun : ∃ s : State, s.Inv := ⟨sending, sending_inv⟩
theorem witness_StepIssues : ∃ (s : State) (ms : List Move) (v : Word) (i : Instr),
    s.moves = .host (.write 0x000 .w32 v) :: ms ∧ decode v = .ok i :=
  ⟨writing sample 0x000 0x11, [], 0x11, .txB, by decide⟩
theorem witness_NoMove : sending.moves = [] ∧ sample.st = .idle := by decide
theorem witness_EngineMove : ({ sending with moves := [.engine, .reset] } : State).moves = .engine :: [.reset] := rfl
theorem witness_Arrive : ({ sending with moves := [.arrive 0x16] } : State).moves = .arrive 0x16 :: [] := rfl
theorem witness_Reserved : ∃ (s : State) (ms : List Move) (v : Word), s.moves = .host (.write 0x000 .w32 v) :: ms ∧
    v.extractLsb' 0 8 ∉ ([0x01, 0x02, 0x03, 0x04, 0x11, 0x12] : List Byte) ∧ s.busy = false ∧ s.st = .idle :=
  ⟨writing sample 0x000 0x13, [], 0x13, by decide⟩
theorem witness_IgnoredBits : (0xFFFFFF04 : Word).extractLsb' 0 8 = (0x00000004 : Word).extractLsb' 0 8 := by decide
theorem witness_WordsRoundTrip : Instr.rxB.wf = true ∧ decode 0xAB000012 = .ok .rxB := by decide
theorem witness_WindowMap : Target.ofOffset 0x2FC = Target.ofOffset 0x2FC ∧ Target.ofOffset 0x2FC ≠ none := by decide
theorem witness_BusError_width : (Width.w8 ≠ .w32) ∧
    ({ sample with moves := [.host (.read 0x100 .w8)] } : State).moves = .host (.read 0x100 .w8) :: [] := by decide
theorem witness_BusError_misaligned : (0x00E : Offset).toNat % 4 ≠ 0 ∧
    (writing sample 0x00E 5).moves = .host (.write 0x00E .w32 5) :: [] := by decide
theorem witness_BusError_hole : (0x02B < (0x02C : Offset).toNat ∧ (0x02C : Offset).toNat < 0x100) ∧
    (0x02B < (0x0FC : Offset).toNat ∧ (0x0FC : Offset).toNat < 0x100) ∧
    (reading sample 0x02C).moves = .host (.read 0x02C .w32) :: [] := by decide
theorem witness_BusError_above : 0x2FF < (0x300 : Offset).toNat ∧
    (writing sample 0x300 5).moves = .host (.write 0x300 .w32 5) :: [] := by decide
theorem witness_Reads : (reading sample Reg.errinfo.offset).moves = .host (.read Reg.errinfo.offset .w32) :: [] ∧
    (reading sample (txWordOffset 63)).moves = .host (.read (txWordOffset 63) .w32) :: [] ∧
    (reading sample (rxWordOffset 0)).moves = .host (.read (rxWordOffset 0) .w32) :: [] := by decide
theorem witness_ReservedBits : ∀ r ∈ [Reg.cfg, Reg.addr, Reg.txctl, Reg.txlen],
    (writing sample r.offset 0xFFFFFFFF).moves = .host (.write r.offset .w32 0xFFFFFFFF) :: [] ∧
    (writing sample r.offset 0xFFFFFFFF).busy = false := by decide
theorem witness_Blocked : BlockedOffset 0x000 ∧ BlockedOffset 0x018 ∧ BlockedOffset 0x1FC ∧
    (writing sending 0x1FC 1).busy = true := by
  exact ⟨.inl rfl, .inr (.inr (.inr (.inr (.inl rfl)))), .inr (.inr (.inr (.inr (.inr ⟨63, rfl⟩)))), rfl⟩
theorem witness_ReadOnly : ReadOnlyOffset 0x010 ∧ ReadOnlyOffset 0x200 ∧ (writing sending 0x200 1).busy = true := by
  exact ⟨.inl rfl, .inr (.inr (.inr (.inr (.inr ⟨0, rfl⟩)))), rfl⟩
theorem witness_BusyStatusWriteAndRead : (writing sending 0x004 0x100).busy = true ∧
    (reading sending 0x004).busy = true ∧ Target.ofOffset 0x004 ≠ none := by decide
theorem witness_IdleIgnoredAndRead : ReadOnlyOffset 0x028 ∧ (writing sample 0x028 1).busy = false ∧
    Target.ofOffset 0x2FC = some (.rxWord 63) ∧ (reading sending 0x2FC).moves = .host (.read 0x2FC .w32) :: [] := by
  exact ⟨.inr (.inr (.inr (.inr (.inl rfl)))), rfl, by decide, rfl⟩
theorem witness_Wbusy_set : ∃ s t : State, step s = .next t ∧ t.wbusy ≠ s.wbusy ∧ t.wbusy = true :=
  ⟨writing sending 0x018 5, _, rfl, by decide, by decide⟩
theorem witness_Wbusy_clear : ∃ s t : State, step s = .next t ∧ t.wbusy ≠ s.wbusy ∧ t.wbusy = false :=
  ⟨writing { sample with wbusy := true } 0x004 0x100, _, rfl, by decide, by decide⟩
theorem witness_Wbusy_reset : ∃ s t : State, step s = .next t ∧ t.wbusy ≠ s.wbusy ∧ s.moves = [.reset] :=
  ⟨{ sample with wbusy := true, moves := [.reset] }, _, rfl, by decide, by decide⟩
theorem witness_BufferWords : (writing sample (txWordOffset 0) 1).moves = .host (.write (txWordOffset 0) .w32 1) :: [] ∧
    (writing sample (txWordOffset 63) 1).moves = .host (.write (txWordOffset 63) .w32 1) :: [] ∧
    sample.busy = false := by decide
theorem witness_Poll : ({ sending with moves := [.poll] } : State).moves = .poll :: [] ∧ sending.busy = true := by decide
theorem witness_LoadTx : sample.busy = false ∧ sample.moves = [] ∧
    (List.replicate 255 (0x41 : Byte)).length ≤ 255 := by decide +kernel

/-- A legal state whose TX_A has one byte left, with SEQ at 9. -/
def lastByte : State :=
  { running .txASend [] with txl := [0x16], seq := 9, line := { sample.line with sendAnswers := [.wok] } }

theorem lastByte_inv : lastByte.Inv where
  memWf := by decide
  rxBufTail := fun _ _ _ => rfl
  seqLegal := by decide
  busyIff := by decide
  busyResult := by decide
  opRunning := by decide
  sendIndex := by decide
  dataCount := by decide
  trailerCount := by decide
  sumType := by decide
  sumData := by decide
  sumMatches := by decide
  pendLegal := by decide
  errClear := by decide
  errPending := by decide
  errReported := by decide
  rxLenLegal := by decide

theorem witness_Seq_step : ∃ s t : State, s.Inv ∧ step s = .next t ∧ t.seq ≠ s.seq :=
  ⟨lastByte, _, lastByte_inv, rfl, by decide⟩
theorem witness_Txchk_txA : ∃ s t : State, step s = .next t ∧ t.txchk ≠ s.txchk :=
  ⟨writing sampleA 0x000 0x01, _, rfl, by decide⟩
theorem witness_Txchk_txB : ∃ s t : State, step s = .next t ∧ t.txchk ≠ s.txchk :=
  ⟨writing sampleB 0x000 0x11, _, rfl, by decide +kernel⟩
theorem witness_ReceiveRegisters : ∃ s t : State, step s = .next t ∧ (∀ ms, s.moves ≠ .reset :: ms) ∧
    t.rxhdr ≠ s.rxhdr ∧ t.rxinfo ≠ s.rxinfo :=
  ⟨{ running .rxFinish [] with pend := .ok, rt := 5, rc := 5 }, _, rfl, (by intro _ h; cases h), by decide, by decide⟩
theorem witness_ReceiveRegisters_ackOnly : ∃ s t : State, step s = .next t ∧ (∀ ms, s.moves ≠ .reset :: ms) ∧
    t.rxinfo ≠ s.rxinfo :=
  ⟨{ running .rxFinish [] with pend := .okAckOnly, rxinfo := { len := 1, csum := 1 } }, _, rfl, (by intro _ h; cases h), by decide⟩
theorem witness_Addr_write : ∃ s t : State, step s = .next t ∧ t.addr ≠ s.addr :=
  ⟨writing sample 0x00C 0x1234, _, rfl, by decide⟩
theorem witness_Addr_merge : ∃ s t : State, step s = .next t ∧ (∀ ms, s.moves ≠ .reset :: ms) ∧ t.addr ≠ s.addr :=
  ⟨{ running .rxFinish [] with pend := .ok, ra := 0x8001 }, _, rfl, (by intro _ h; cases h), by decide⟩
theorem witness_Proto : ∃ s t : State, step s = .next t ∧ (∀ ms, s.moves ≠ .reset :: ms) ∧ t.proto ≠ s.proto :=
  ⟨writing sample 0x008 0x01, _, rfl, (by intro _ h; cases h), by decide⟩
theorem witness_Txctl : ∃ s t : State, step s = .next t ∧ (∀ ms, s.moves ≠ .reset :: ms) ∧ t.txctl ≠ s.txctl :=
  ⟨writing sample 0x014 0xFF000000, _, rfl, (by intro _ h; cases h), by decide⟩
theorem witness_Txlen : ∃ s t : State, step s = .next t ∧ (∀ ms, s.moves ≠ .reset :: ms) ∧ t.txlen ≠ s.txlen :=
  ⟨writing sample 0x018 0xFF, _, rfl, (by intro _ h; cases h), by decide⟩
theorem witness_Busy_set : ∃ s t : State, step s = .next t ∧ (∀ ms, s.moves ≠ .reset :: ms) ∧ t.busy = true ∧
    s.busy = false ∧ t.errinfo ≠ s.errinfo :=
  ⟨writing { sampleA with errinfo := { state := 24, kind := .io, byte := 0x16, computed := 0 } } 0x000 0x03, _, rfl,
    (by intro _ h; cases h), by decide, by decide, by decide⟩
theorem witness_Busy_clear : ∃ s t : State, step s = .next t ∧ (∀ ms, s.moves ≠ .reset :: ms) ∧ t.busy = false ∧
    s.busy = true ∧ t.result ≠ s.result ∧ t.errinfo ≠ s.errinfo :=
  ⟨{ sending with line := { sample.line with sendAnswers := [.wioerr] } }, _, rfl, (by intro _ h; cases h),
    by decide, by decide, by decide, by decide⟩
theorem witness_Busy_clear_rx : ∃ s t : State, step s = .next t ∧ (∀ ms, s.moves ≠ .reset :: ms) ∧ t.busy = false ∧
    s.busy = true ∧ s.st = .rxFinish :=
  ⟨{ running .rxFinish [] with pend := .timeout }, _, rfl, (by intro _ h; cases h), by decide, by decide, rfl⟩
theorem witness_Result_cmd : ∃ s t : State, step s = .next t ∧ (∀ ms, s.moves ≠ .reset :: ms) ∧ t.result ≠ s.result ∧
    t.busy = false ∧ t.result = .ok :=
  ⟨writing sample 0x000 0x04, _, rfl, (by intro _ h; cases h), by decide, by decide, by decide⟩
theorem witness_Errinfo_rx : ∃ s t : State, step s = .next t ∧ (∀ ms, s.moves ≠ .reset :: ms) ∧ t.errinfo ≠ s.errinfo ∧
    s.st = .rxSkipExtraSyns :=
  ⟨running .rxSkipExtraSyns [0x15], _, rfl, (by intro _ h; cases h), by decide, rfl⟩
theorem witness_Buffer_write : ∃ (s t : State) (a : Nat), step s = .next t ∧ t.byteAt a ≠ s.byteAt a :=
  ⟨writing sampleA 0x100 0x44332211, _, 0x100, rfl, by decide⟩
theorem witness_Buffer_store : ∃ (s t : State) (a : Nat), step s = .next t ∧ (∀ ms, s.moves ≠ .reset :: ms) ∧
    t.byteAt a ≠ s.byteAt a :=
  ⟨{ running .rxReadData [0x41] with mem := [(0x200, 0x07)], n := 2 }, _, 0x200, rfl, (by intro _ h; cases h), by decide⟩

theorem witness_TxA : sampleA.busy = false ∧ ({ sampleA with txlen := 40 } : State).txlen.toNat ≤ 40 ∧
    sampleA.proto = .a := by decide
theorem witness_TxB : ∃ (glob : Bool) (body : List Byte) (c : Half), sampleB.busy = false ∧ sampleB.proto = .b ∧
    glob = (globalCodes sampleB.params.globalMec).contains sampleB.txctl.mtype ∧
    1 + (if glob then 0 else 2) + (if sampleB.txctl.melNa then 0 else 1) + sampleB.txlen.toNat ≤ 254 ∧
    body = bodyB glob sampleB.addr sampleB.txctl.mtype sampleB.txctl.dsn sampleB.txctl.psn sampleB.txctl.melNa
      sampleB.payload ∧
    c = crc16B sampleB.params.crcBReflect body :=
  ⟨false, _, _, by decide, by decide, by decide, by decide, rfl, rfl⟩
theorem witness_RxA : sampleA.busy = false ∧ sampleA.addr.getLsbD 15 = false ∧ sampleA.proto = .a := by decide
theorem witness_AckA : ({ sampleA with addr := 0x8001 } : State).busy = false ∧ sampleA.proto = .a := by decide
theorem witness_IdleCommand : sampleB.busy = false ∧ sampleB.st = .idle := by decide
theorem witness_Checks : 40 < ({ sampleB with txlen := 41 } : State).txlen.toNat ∧
    ({ sampleB with txlen := 40 } : State).txlen.toNat ≤ 40 ∧ sampleB.proto = .b ∧
    254 < ({ sampleA with txlen := 251 } : State).mflTxB ∧ ({ sampleA with txlen := 250 } : State).mflTxB ≤ 254 ∧
    sampleA.proto = .a ∧ ({ sampleA with addr := 0x8000 } : State).addr.getLsbD 15 = true := by decide
theorem witness_Dropped : sending.busy = true := by decide
theorem witness_CommandFrame : ∃ t, exec .txA sampleA = .next t ∧ sampleA.busy = false := ⟨_, rfl, rfl⟩
theorem witness_CommandFrame_rejected : ∃ t, exec .rxB sampleA = .next t ∧ t.busy = false := ⟨_, rfl, rfl⟩

theorem witness_TransmitStep (r : SendResult) : ∃ (s u : State) (b : Byte), s.st.sending = true ∧
    s.txl[s.k.toNat]? = some b ∧ s.send b = (r, u) ∧ (s.k + 1).toNat ≠ s.txl.length :=
  ⟨{ sending with line := { sending.line with sendAnswers := [r] } }, _, 0x16, rfl, rfl, rfl,
    (by decide : (0 + 1 : BitVec 10).toNat ≠ 5)⟩
theorem witness_TransmitStep_last : ∃ (s u : State) (b : Byte), s.st.sending = true ∧
    s.txl[s.k.toNat]? = some b ∧ s.send b = (.wok, u) ∧ (s.k + 1).toNat = s.txl.length :=
  ⟨lastByte, _, 0x16, rfl, rfl, rfl, rfl⟩
theorem witness_TxASends : ∃ (s : State) (rest : List SendResult) (frame : List Byte), s.busy = false ∧ s.moves = [] ∧
    s.txlen.toNat ≤ 40 ∧ s.proto = .a ∧ frame = frameA s.addr s.seq s.txctl.mtype s.payload ∧
    s.line.sendAnswers = List.replicate frame.length .wok ++ rest :=
  ⟨{ sampleA with line := { sample.line with sendAnswers := List.replicate 18 .wok } }, [], _, rfl, rfl, by decide, rfl,
    rfl, by decide⟩
theorem witness_TxBSends : ∃ (s : State) (rest : List SendResult) (frame : List Byte), s.busy = false ∧ s.moves = [] ∧
    s.mflTxB ≤ 254 ∧ s.proto = .b ∧ frame = wrapB s.params.crcBReflect s.bodyTxB ∧
    s.line.sendAnswers = List.replicate frame.length .wok ++ rest :=
  ⟨{ sampleB with line := { sample.line with sendAnswers := List.replicate 15 .wok } }, [], _, rfl, rfl, by decide, rfl,
    rfl, by decide +kernel⟩
theorem witness_AckASends : ∃ (s : State) (rest : List SendResult), s.busy = false ∧ s.moves = [] ∧ s.proto = .a ∧
    s.line.sendAnswers = List.replicate 5 .wok ++ rest :=
  ⟨{ sampleA with line := { sample.line with sendAnswers := List.replicate 5 .wok } }, [], rfl, rfl, rfl, rfl⟩
theorem witness_TransmitFailure : ∃ (s : State) (j : Nat) (b : Byte) (r : SendResult) (rest : List SendResult),
    s.st.sending = true ∧ s.moves = [] ∧ s.txl.length ≤ 522 ∧ s.txl[s.k.toNat + j]? = some b ∧ r ≠ .wok ∧
    s.line.sendAnswers = List.replicate j .wok ++ r :: rest :=
  ⟨sending, 1, 0x16, .wtimeout, [], rfl, rfl, by decide, rfl, by decide, rfl⟩
theorem witness_Wire : ∃ s t : State, step s = .next t ∧ t.line.sent ≠ s.line.sent := ⟨lastByte, _, rfl, by decide⟩
theorem witness_InFlight : ∃ s t : State, s.busy = true ∧ s.st.sending = true ∧ step s = .next t ∧
    ∀ ms, s.moves ≠ .reset :: ms := ⟨sending, _, rfl, rfl, rfl, (by intro _ h; cases h)⟩

theorem witness_OneByte : ∃ (s u : State), s.st = .rxExpectEtx ∧ s.recv = (.rbyte 0x03, u) :=
  ⟨running .rxExpectEtx [0x03], _, rfl, rfl⟩
theorem witness_Handshake (e : EngineState) (b : Byte) : ∃ (s u : State), s.recv = (.rbyte b, u) ∧ s.st = e :=
  ⟨running e [b], _, rfl, rfl⟩
theorem witness_Length : 40 < (0x29 : Byte).toNat ∧ (0x28 : Byte).toNat ≤ 40 ∧ (0x00 : Byte).toNat ≤ 40 := by decide
theorem witness_Digits : hexval 0x62 = none ∧ hexval 0x39 = some 9 ∧ hexval 0x46 = some 15 := by decide
theorem witness_Digit_match : ∃ (s u : State) (v : BitVec 4) (rc : Byte), s.recv = (.rbyte 0x35, u) ∧
    s.st = .rxReadCsumLo ∧ hexval 0x35 = some v ∧ rc = BitVec.ofNat 8 (s.hi.toNat * 16 + v.toNat) ∧
    rc = s.acc.extractLsb' 0 8 :=
  ⟨atDigit, _, 5, 0x05, rfl, rfl, by decide, by decide, by decide⟩
theorem witness_RecvFails (r : RecvResult) : ∃ s u : State, s.st.receiving = true ∧ s.recv = (r, u) :=
  ⟨{ running .rxWaitSyn [] with line := { sample.line with recvAnswers := [r] } }, _, rfl, rfl⟩
theorem witness_RxFinish (r : Result) : ∃ s : State, s.st = .rxFinish ∧ s.pend = r :=
  ⟨{ running .rxFinish [] with pend := r }, rfl, rfl⟩
theorem witness_AckOnly : ∃ (s : State) (m : Nat) (more : List Byte), s.busy = false ∧ s.moves = [] ∧
    s.addr.getLsbD 15 = false ∧ s.proto = .a ∧
    s.line.held = List.replicate (m + 1) 0x16 ++ [0x06, 0x16, 0x00] ++ more :=
  ⟨{ sampleA with line := { sample.line with held := [0x16, 0x16, 0x06, 0x16, 0x00, 0x55] } }, 1, [0x55], rfl, rfl, rfl,
    rfl, rfl⟩
theorem witness_RoundTripA : ∃ (s : State) (a : Half) (q : BitVec 4) (ty : Byte) (d more : List Byte),
    a.getLsbD 15 = false ∧ q.toNat ≤ 9 ∧ d.length ≤ 40 ∧ s.busy = false ∧ s.moves = [] ∧ s.addr.getLsbD 15 = false ∧
    s.proto = .a ∧ s.line.held = [0x16, 0x16, 0x06, 0x16] ++ frameA a q ty d ++ more :=
  ⟨{ sample with line := { sample.line with
      held := [0x16, 0x16, 0x06, 0x16] ++ frameA 0x0001 9 0x05 (List.replicate 40 0x10) ++ [0x16] } },
    0x0001, 9, 0x05, List.replicate 40 0x10, [0x16], rfl, by decide, by decide, rfl, rfl, rfl, rfl, rfl⟩
theorem witness_GoodChecksum : ∃ s t : State, s.Inv ∧ step s = .next t ∧ t.st = .rxExpectTrailingSyn :=
  ⟨atDigit, _, atDigit_inv, rfl, by decide⟩
theorem witness_LegalDigit : ∃ s : State, s.Inv ∧ s.st = .rxReadCsumLo := ⟨atDigit, atDigit_inv, rfl⟩
/-- The data byte 0x41 changed to an escape marker. -/
theorem witness_ChangedByte : ∃ (s : State) (a : Half) (q : BitVec 4) (ty : Byte) (d wire : List Byte) (j : Nat) (b : Byte)
    (rest : List RecvResult), q.toNat ≤ 9 ∧ d.length ≤ 40 ∧
    wire = (frameA a q ty d).take (15 + d.length + d.count 0x10) ∧ 8 ≤ j ∧ j < 10 + (escA d).length ∧
    wire[j]? ≠ some b ∧ s.busy = false ∧ s.moves = [] ∧ s.addr.getLsbD 15 = false ∧ s.proto = .a ∧
    s.line.held = [0x16, 0x16, 0x06, 0x16] ++ wire.set j b ∧ s.line.recvAnswers = .rtimeout :: rest :=
  ⟨{ sample with line := { sample.line with recvAnswers := [.rtimeout], held := [0x16, 0x16, 0x06, 0x16] ++
      ((frameA 0x8001 9 0x05 [0x41, 0x10]).take 18).set 10 0x10 } },
    0x8001, 9, 0x05, [0x41, 0x10], _, 10, 0x10, [], by decide, by decide, rfl, by decide, by decide, by decide, rfl, rfl,
    rfl, rfl, rfl, rfl⟩
theorem witness_WorkingRegisters : ∃ s s' : State, s.st = .idle ∧ s.visible = s'.visible ∧ s ≠ s' :=
  ⟨sample, { sample with acc := 1, txl := [0x16] }, rfl, rfl, fun h => absurd (congrArg State.acc h) (by decide)⟩

theorem witness_Sum : (List.replicate 40 (0xFF : Byte)).length ≤ 40 := by decide
theorem witness_NoReply : (0x8001 : Half).getLsbD 15 = true := by decide
theorem witness_Cycle : (9 : BitVec 4).toNat ≤ 9 := by decide
theorem witness_LongestElement : (elemB true 0x0D 0 0 true (List.replicate 253 0)).length ≤ 254 := by
  decide +kernel
theorem witness_GlobalSet : (globalCodes sample.params.globalMec).contains 0x2C = true ∧
    (globalCodes sample.params.globalMec).contains 0x02 = false := by decide
theorem witness_UnknownCode : (0x03 : Byte) ≠ 0x00 ∧ (0x03 : Byte) ≠ 0x01 ∧ (0x03 : Byte) ≠ 0x02 := by decide
theorem witness_Destuffed : destuffB [0xFD, 0x02] = some [0xFF] ∧ stuffB [0xFF] = [0xFD, 0x02] := by decide
theorem witness_RoundTripB : ∃ body inner : List Byte, body = bodyB false 0xFEFF 0x02 0 0 false [0xFD] ∧
    wrapB true body = [0xFE] ++ inner ++ [0xFF] :=
  ⟨_, stuffB (withCrc true (bodyB false 0xFEFF 0x02 0 0 false [0xFD])), rfl, rfl⟩

end Sys2Proof.Machine
end

section
/-! PROOFS. Which agent's move a step makes (spec/00_scope.md R18). -/

namespace Sys2Proof.Machine

/-- The offset of CMD names CMD (R51), so a word access there reaches it. -/
theorem accessTarget_cmd : accessTarget 0x000 .w32 = some (.reg .cmd) := by decide

/-- A word write to CMD answers `err = 0` and issues the written value (R21, R80). -/
theorem step_of_cmdWrite {s : State} {ms : List Move} {v : Word}
    (h : s.moves = .host (.write 0x000 .w32 v) :: ms) :
    step s = issue v { s with moves := ms, bus := { data := 0, err := false } } :=
  (step_of_host h).trans (hostWrite_of_cmd v { s with moves := ms } accessTarget_cmd)

/-- Settles O6, one clause for each kind of move: a CMD write reaches `issue`, which runs the decoded command; the engine,
IDLE and arrival clauses are the step laws of those moves. -/
theorem stepMakesTheNextMove : Obligations.StepMakesTheNextMove := by
  unfold Obligations.StepMakesTheNextMove
  refine ⟨?command, ?noMove, ?engineMove, ?idle, ?arrival⟩
  case command =>
    intro s ms v i hmoves hdecode
    rw [step_of_cmdWrite hmoves, issue_of_ok _ hdecode]
  case noMove => exact fun s hmoves => step_of_nil hmoves
  case engineMove => exact fun s ms hmoves => step_of_engine hmoves
  case idle => exact fun s hst => engineStep_of_idle hst
  case arrival => exact fun s ms b hmoves => step_of_arrive hmoves

end Sys2Proof.Machine
end

section
/-! PROOFS. What each offset of the host window names (spec/20_memory.md R51, R56), in both directions. -/

namespace Sys2Proof

@[simp] theorem Target.ofOffset_reg (r : Reg) : Target.ofOffset r.offset = some (.reg r) := by
  cases r <;> decide

theorem txWordOffset_toNat (w : Fin 64) : (txWordOffset w.val).toNat = 0x100 + 4 * w.val := by
  simp only [txWordOffset, txBase, BitVec.toNat_ofNat]
  omega

theorem rxWordOffset_toNat (w : Fin 64) : (rxWordOffset w.val).toNat = 0x200 + 4 * w.val := by
  simp only [rxWordOffset, rxBase, BitVec.toNat_ofNat]
  omega

theorem Target.ofOffset_txWord (w : Fin 64) : Target.ofOffset (txWordOffset w.val) = some (.txWord w) := by
  have hword : (0x100 + 4 * w.val - 0x100) / 4 = w.val := by omega
  unfold Target.ofOffset
  rw [txWordOffset_toNat, if_neg (by omega), if_neg (by simp [txBase]), if_pos (by simp only [rxBase]; omega)]
  simp only [txBase, hword, Fin.ofNat_val_eq_self]

theorem Target.ofOffset_rxWord (w : Fin 64) : Target.ofOffset (rxWordOffset w.val) = some (.rxWord w) := by
  have hword : (0x200 + 4 * w.val - 0x200) / 4 = w.val := by omega
  unfold Target.ofOffset
  rw [rxWordOffset_toNat, if_neg (by omega), if_neg (by simp only [txBase]; omega), if_neg (by simp [rxBase]),
    if_pos (by simp only [rxBase, Config.bufSize]; omega)]
  simp only [rxBase, hword, Fin.ofNat_val_eq_self]

/-- The offset of a target: the map of R51 read from right to left. -/
def Target.offset : Target → Offset
  | .reg r => r.offset
  | .txWord w => txWordOffset w.val
  | .rxWord w => rxWordOffset w.val

/-- Only its own offset names a target. -/
theorem Target.eq_offset_of_ofOffset {a : Offset} {x : Target} (h : Target.ofOffset a = some x) : a = x.offset := by
  have hword : ∀ base, base ≤ a.toNat → a.toNat < base + 256 → base % 4 = 0 → a.toNat % 4 = 0 →
      (BitVec.ofNat 12 (base + 4 * (Fin.ofNat 64 ((a.toNat - base) / 4)).val)) = a := by
    intro base hle hlt hbase ha
    apply BitVec.eq_of_toNat_eq
    simp only [Fin.val_ofNat, BitVec.toNat_ofNat]
    omega
  unfold Target.ofOffset at h
  split_ifs at h with haligned hreg htx hrx
  · obtain ⟨r, hr, rfl⟩ := Option.map_eq_some_iff.mp h
    have hoffset := List.find?_some (p := fun r : Reg => r.offset == a) hr
    exact (eq_of_beq hoffset).symm
  all_goals
    simp only [txBase, rxBase, ne_eq, Decidable.not_not] at haligned hreg htx
    cases h
  · exact (hword 0x100 (by omega) (by omega) rfl haligned).symm
  · simp only [rxBase, Config.bufSize] at hrx
    exact (hword 0x200 (by omega) (by omega) rfl haligned).symm

end Sys2Proof
end

section
/-! PROOFS. Everything one step can do to the block, as inductive predicates over the next state: the acceptance of a command
(spec/30_encoding.md R80 to R84), one receive step (spec/41_protocol_a_rx.md R141 to R161), one step of the whole. -/

namespace Sys2Proof.Machine

/-! ### Acceptance -/

/-- What the acceptance of a decoded CMD word does with BUSY = 0: it is rejected, or it is one of the five meanings. -/
inductive AcceptStep (d : Except DecodeError Instr) (s : State) : State → Prop
  | rejected (r : Result) : r = .unsupported ∨ r = .invalidArgument → AcceptStep d s (finish r s)
  | seqReset : d = .ok .seqReset → AcceptStep d s (finish .ok { s with seq := 0 })
  | txA : d = .ok .txA → s.txlen.toNat ≤ 40 → AcceptStep d s
      { start 0x01 .txASend s with
        txchk := (csumA s.txctl.mtype s.payload).setWidth 16, txl := s.frameTxA, k := 0 }
  | ackA : d = .ok .ackA → AcceptStep d s { start 0x03 .txAckSend s with txl := ackFrame, k := 0 }
  | rxA : d = .ok .rxA → AcceptStep d s { start 0x02 .rxWaitSyn s with acc := 0, i := 0, n := 0 }
  | txB : d = .ok .txB → s.mflTxB ≤ 254 → AcceptStep d s
      { start 0x11 .txBSend s with txchk := s.crcTxB, txl := s.frameTxB, k := 0 }

/-- A command is dropped while BUSY = 1 (R60); else it is accepted or rejected. -/
theorem exec_cases (i : Instr) (s : State) :
    (s.busy = true ∧ exec i s = .next { s with wbusy := true }) ∨
    (s.busy = false ∧ ∃ t, exec i s = .next t ∧ AcceptStep (.ok i) s t) := by
  cases hbusy : s.busy with
  | true => left; cases i <;> simp [hbusy]
  | false =>
    right
    refine ⟨rfl, ?_⟩
    cases i <;> simp only [exec_txA, exec_rxA, exec_ackA, exec_seqReset, exec_txB, exec_rxB, whileIdle_of_idle hbusy,
      Host.Outcome.next.injEq, exists_eq_left']
    case txA =>
      obtain ⟨-, h⟩ | ⟨-, -, h⟩ | ⟨hlen, -, h⟩ := acceptTxA_cases s <;> rw [h]
      · exact .rejected _ (.inr rfl)
      · exact .rejected _ (.inl rfl)
      · exact .txA rfl hlen
    case rxA =>
      obtain ⟨-, h⟩ | ⟨-, -, h⟩ := acceptRxA_cases s <;> rw [h]
      · exact .rejected _ (.inl rfl)
      · exact .rxA rfl
    case ackA =>
      obtain ⟨-, h⟩ | ⟨-, h⟩ := acceptAckA_cases s <;> rw [h]
      · exact .rejected _ (.inl rfl)
      · exact .ackA rfl
    case seqReset => exact .seqReset rfl
    case txB =>
      obtain ⟨-, h⟩ | ⟨-, -, h⟩ | ⟨hlen, -, h⟩ := acceptTxB_cases s <;> rw [h]
      · exact .rejected _ (.inr rfl)
      · exact .rejected _ (.inl rfl)
      · exact .txB rfl hlen
    case rxB => exact .rejected _ (.inl rfl)

/-- The same for a CMD write of any value, reserved OPs included (R82). -/
theorem issue_cases (v : Word) (s : State) :
    (s.busy = true ∧ issue v s = .next { s with wbusy := true }) ∨
    (s.busy = false ∧ ∃ t, issue v s = .next t ∧ AcceptStep (decode v) s t) := by
  cases hd : decode v with
  | ok i => rw [issue_of_ok s hd]; exact exec_cases i s
  | error e =>
    rw [issue_of_error s hd, execReserved_eq]
    obtain ⟨hbusy, h⟩ | ⟨hbusy, h⟩ := whileIdle_cases (finish .unsupported) s
    · exact .inr ⟨hbusy, _, congrArg _ h, .rejected _ (.inl rfl)⟩
    · exact .inl ⟨hbusy, congrArg _ h⟩

/-- What acceptance may write (R80, R84). -/
theorem AcceptStep.frame {d : Except DecodeError Instr} {s t : State} (h : AcceptStep d s t) :
    t = { s with
      busy := t.busy, result := t.result, errinfo := t.errinfo, st := t.st, op := t.op, seq := t.seq
      txchk := t.txchk, txl := t.txl, k := t.k, acc := t.acc, n := t.n, i := t.i } := by
  cases h <;> rfl

/-! ### Transmitting -/

/-- What one step of a transmit state does, after its `Send` (R114). -/
inductive SendStep (s : State) : State → Prop
  | more : (s.k + 1).toNat ≠ s.txl.length → SendStep s { s with k := s.k + 1 }
  | last : (s.k + 1).toNat = s.txl.length → SendStep s
      (finish .ok { s with k := s.k + 1, seq := if s.op = 0x01 then nextSeq s.seq else s.seq })
  | failed (kind : Kind) (b : Byte) : kind = .timeout ∨ kind = .io → SendStep s (raise kind.result kind b s)

theorem txDone_eq (s : State) :
    txDone s = finish .ok { s with seq := if s.op = 0x01 then nextSeq s.seq else s.seq } := by
  rw [txDone]
  split_ifs <;> rfl

theorem txVerdict_cases (b : Byte) (r : SendResult) (s : State) : SendStep s (txVerdict b r s) := by
  cases r with
  | wok =>
    simp only [txVerdict, txDone_eq]
    split
    next hlast => exact .last hlast
    next hmore => exact .more hmore
  | wtimeout => exact .failed .timeout b (.inl rfl)
  | wioerr => exact .failed .io b (.inr rfl)

/-- What a transmit step may write. -/
theorem SendStep.frame {s t : State} (h : SendStep s t) :
    t = { s with
      k := t.k, seq := t.seq, busy := t.busy, result := t.result, errinfo := t.errinfo, st := t.st } := by
  cases h <;> rfl

/-! ### Receiving -/

/-- The moves of the receive machine that write nothing but `st` (R143 to R148, R152, R154, R158). -/
def receiveAdvances : List (EngineState × EngineState) :=
  [(.rxWaitSyn, .rxSkipExtraSyns), (.rxSkipExtraSyns, .rxSkipExtraSyns), (.rxSkipExtraSyns, .rxExpectSynAfterAck),
    (.rxExpectSynAfterAck, .rxExpectEmptyOrFrame), (.rxExpectEmptyOrFrame, .rxHdrSyn), (.rxHdrSyn, .rxHdrSoh),
    (.rxHdrSoh, .rxHdrAddrHi), (.rxExpectDleStx, .rxExpectStx), (.rxExpectStx, .rxReadType),
    (.rxReadData, .rxReadDataEsc), (.rxExpectDleEtx, .rxExpectEtx), (.rxExpectEtx, .rxReadCsumHi)]

/-- The state code a receive failure of a kind captures (R228): the ACK check reports under code 3 (R144). -/
def failureCode (e : EngineState) (kind : Kind) : BitVec 5 :=
  if e = .rxSkipExtraSyns ∧ kind = .unexpected then expectAckCode else e.code

/-- What one step of a receiving state does, after its `Recv`. -/
inductive ReceiveStep (s : State) : State → Prop
  | advance (e : EngineState) : (s.st, e) ∈ receiveAdvances → ReceiveStep s { s with st := e }
  | ackOnly : s.st = .rxExpectEmptyOrFrame → ReceiveStep s { s with pend := .okAckOnly, st := .rxFinish }
  | addrHi (b : Byte) : s.st = .rxHdrAddrHi → ReceiveStep s { s with ra := b ++ loByte s.ra, st := .rxHdrAddrLo }
  | addrLo (b : Byte) : s.st = .rxHdrAddrLo → ReceiveStep s { s with ra := hiByte s.ra ++ b, st := .rxHdrSeq }
  | seq (b : Byte) : s.st = .rxHdrSeq → ReceiveStep s { s with rs := b, st := .rxExpectDleStx }
  | type (b : Byte) : s.st = .rxReadType →
      ReceiveStep s { s with rt := b, acc := b.setWidth 16, st := .rxReadLen }
  | length (b : Byte) : s.st = .rxReadLen → b.toNat ≤ Config.aMaxLen → ReceiveStep s { s with
      n := b, acc := addByte s.acc b, i := 0, st := if b = 0 then .rxExpectDleEtx else .rxReadData }
  | store (b : Byte) : s.st.inData = true → ReceiveStep s (storeData b s)
  | digitHi (v : BitVec 4) : s.st = .rxReadCsumHi → ReceiveStep s { s with hi := v, st := .rxReadCsumLo }
  | digitLo : s.st = .rxReadCsumLo →
      ReceiveStep s { s with rc := loByte s.acc, st := .rxExpectTrailingSyn }
  | complete : s.st = .rxExpectTrailingSyn → ReceiveStep s { s with pend := .ok, st := .rxFinish }
  | failed (kind : Kind) (b computed rc : Byte) : kind ≠ .none → ReceiveStep s
      (rxFail kind.result (failureCode s.st kind) kind b computed { s with rc := rc })

/-- A failure captured under the code its state reports. -/
theorem receiveStep_rxFail {s : State} {kind : Kind} {code : BitVec 5} (hcode : failureCode s.st kind = code)
    (hkind : kind ≠ .none) (b computed : Byte) : ReceiveStep s (rxFail kind.result code kind b computed s) := by
  subst hcode
  exact .failed kind b computed s.rc hkind

/-- A violation met in any state but RX_SKIP_EXTRA_SYNS captures that state's own code. -/
theorem receiveStep_viol {s : State} {kind : Kind} (h : s.st ≠ .rxSkipExtraSyns)
    (hkind : kind.result = .protocolViolation) (b computed rc : Byte) :
    ReceiveStep s (viol kind b computed { s with rc := rc }) := by
  have hcode : failureCode s.st kind = s.st.code := by simp [failureCode, h]
  have hne : kind ≠ .none := by rintro rfl; cases hkind
  simpa [viol, hkind, hcode] using ReceiveStep.failed (s := s) kind b computed rc hne

theorem receiveStep_expectByte {s : State} {e : EngineState} (want b : Byte) (h : (s.st, e) ∈ receiveAdvances)
    (hne : s.st ≠ .rxSkipExtraSyns) : ReceiveStep s (expectByte want e b s) := by
  unfold expectByte
  split
  · exact .advance e h
  · exact receiveStep_viol hne rfl b 0 s.rc

/-- Everything a receiving state does with the byte it read. -/
theorem rxByte_cases (b : Byte) {s : State} (h : s.st.receiving = true) : ReceiveStep s (rxByte b s) := by
  unfold rxByte
  cases hst : s.st
  case idle | rxFinish | txASend | txAckSend | txBSend => simp [hst, EngineState.receiving] at h
  case rxWaitSyn | rxExpectSynAfterAck | rxHdrSyn | rxHdrSoh | rxExpectDleStx | rxExpectStx | rxExpectDleEtx
      | rxExpectEtx =>
    exact receiveStep_expectByte _ b (by simp [hst, receiveAdvances]) (by simp [hst])
  case rxSkipExtraSyns =>
    simp only [rxSkipExtraSyns]
    split
    · exact .advance _ (by simp [hst, receiveAdvances])
    · split
      · exact .advance _ (by simp [hst, receiveAdvances])
      · exact receiveStep_rxFail (kind := .unexpected) (by simp [hst, failureCode]) (by decide) b 0
  case rxExpectEmptyOrFrame =>
    simp only [rxExpectEmptyOrFrame]
    split
    · exact .ackOnly hst
    · split
      · exact .advance _ (by simp [hst, receiveAdvances])
      · exact receiveStep_viol (by simp [hst]) rfl b 0 s.rc
  case rxHdrAddrHi => exact .addrHi b hst
  case rxHdrAddrLo => exact .addrLo b hst
  case rxHdrSeq => exact .seq b hst
  case rxReadType => exact .type b hst
  case rxReadLen =>
    simp only [rxReadLen]
    split
    · exact receiveStep_viol (by simp [hst]) rfl b 0 s.rc
    · exact .length b hst (by omega)
  case rxReadData =>
    simp only [rxReadData]
    split
    · exact .advance _ (by simp [hst, receiveAdvances])
    · exact .store b (by simp [hst, EngineState.inData])
  case rxReadDataEsc => exact .store b (by simp [hst, EngineState.inData])
  case rxReadCsumHi =>
    simp only [rxReadCsumHi]
    cases hexval b with
    | some v => exact .digitHi v hst
    | none => exact receiveStep_viol (by simp [hst]) rfl b 0 s.rc
  case rxReadCsumLo =>
    simp only [rxReadCsumLo]
    cases hexval b with
    | some v =>
      simp only
      split
      · exact receiveStep_viol (by simp [hst]) rfl _ _ _
      next heq =>
        rw [ne_eq, Decidable.not_not] at heq
        rw [heq]
        exact .digitLo hst
    | none => exact receiveStep_viol (by simp [hst]) rfl b 0 s.rc
  case rxExpectTrailingSyn =>
    simp only [rxExpectTrailingSyn]
    split
    · exact .complete hst
    · exact receiveStep_viol (by simp [hst]) rfl b 0 s.rc

/-- What a receive step may write (R141 to R161). -/
theorem ReceiveStep.frame {s t : State} (h : ReceiveStep s t) :
    t = { s with
      mem := t.mem, errinfo := t.errinfo, st := t.st, acc := t.acc, n := t.n, i := t.i, hi := t.hi, ra := t.ra
      rs := t.rs, rt := t.rt, rc := t.rc, pend := t.pend } := by
  cases h <;> rfl

/-- What the RX_FINISH step does (R162, R163). -/
inductive FinishStep (s : State) : State → Prop
  | ok : s.pend = .ok → FinishStep s (finish .ok { s.flush with
      rxhdr := { addr := s.ra, seq := s.rs, mtype := s.rt }
      rxinfo := { len := s.n, csum := s.rc }
      addr := mergeNoReply s.addr s.ra })
  | ackOnly : s.pend = .okAckOnly → FinishStep s (finish .okAckOnly { s.flush with rxinfo := { len := 0, csum := 0 } })
  | other : s.pend ≠ .ok → s.pend ≠ .okAckOnly → FinishStep s (finish s.pend s.flush)

theorem rxFinishStep_cases (s : State) : FinishStep s (rxFinishStep s) := by
  unfold rxFinishStep publish
  cases hp : s.pend
  case ok => simpa [hp] using FinishStep.ok hp
  case okAckOnly => simpa [hp] using FinishStep.ackOnly hp
  all_goals simpa [hp] using FinishStep.other (s := s) (by simp [hp]) (by simp [hp])

/-- What the RX_FINISH step may write (R162). -/
theorem FinishStep.frame {s t : State} (h : FinishStep s t) :
    t = { s with
      line := t.line, rxhdr := t.rxhdr, rxinfo := t.rxinfo, addr := t.addr, busy := t.busy, result := t.result
      st := t.st } := by
  cases h <;> rfl

/-! ### A step of the whole -/

/-- The state with what is not the block's put to given values: the moves to come, the bus answer and the transport. -/
@[simp] def State.around (s : State) (ms : List Move) (b : BusAnswer) (l : Line) (d : Nat) : State :=
  { s with moves := ms, bus := b, line := l, draws := d }

theorem rxStep_cases {s : State} (h : s.st.receiving = true) :
    ∃ l d, ReceiveStep (s.around s.moves s.bus l d) (rxStep s) := by
  obtain ⟨hs, as, d, hu⟩ := recv_spec s
  refine ⟨{ s.line with held := hs, recvAnswers := as }, d, ?_⟩
  have hrecv : s.recv = (s.recv.1, s.around s.moves s.bus { s.line with held := hs, recvAnswers := as } d) :=
    Prod.ext rfl hu
  cases hr : s.recv.1 with
  | rbyte b =>
    rw [rxStep_of_byte (hr ▸ hrecv)]
    exact rxByte_cases b h
  | rtimeout =>
    rw [rxStep_of_timeout (hr ▸ hrecv)]
    exact receiveStep_rxFail (kind := .timeout) (by simp [failureCode]) (by decide) 0 0
  | rioerr =>
    rw [rxStep_of_ioerr (hr ▸ hrecv)]
    exact receiveStep_rxFail (kind := .io) (by simp [failureCode]) (by decide) 0 0

/-- Everything a step can do to the block, and by whose move. -/
inductive BlockStep (s : State) : State → Prop
  /-- A read, a POLL, a bus error, a write to a read-only target, an arriving byte, or the engine in IDLE. -/
  | quiet (ms b l d) : BlockStep s (s.around ms b l d)
  | reset (ms) : s.moves = .reset :: ms → BlockStep s (resetNow { s with moves := ms })
  /-- A write that BUSY = 1 blocks (R60). -/
  | dropped (a v ms b) : s.moves = .host (.write a .w32 v) :: ms → BlockedOffset a → s.busy = true →
      BlockStep s { s.around ms b s.line s.draws with wbusy := true }
  | command (v ms b t) : s.moves = .host (.write 0x000 .w32 v) :: ms → s.busy = false →
      AcceptStep (decode v) (s.around ms b s.line s.draws) t → BlockStep s t
  | status (v ms b) : s.moves = .host (.write 0x004 .w32 v) :: ms →
      BlockStep s (writeStatus v (s.around ms b s.line s.draws))
  | cfg (v ms b) : s.moves = .host (.write 0x008 .w32 v) :: ms → s.busy = false →
      BlockStep s { s.around ms b s.line s.draws with proto := Proto.ofBit (v.getLsbD 0) }
  | addr (v ms b) : s.moves = .host (.write 0x00C .w32 v) :: ms → s.busy = false →
      BlockStep s { s.around ms b s.line s.draws with addr := v.extractLsb' 0 16 }
  | txctl (v ms b) : s.moves = .host (.write 0x014 .w32 v) :: ms → s.busy = false →
      BlockStep s { s.around ms b s.line s.draws with txctl := txctlOfWord v }
  | txlen (v ms b) : s.moves = .host (.write 0x018 .w32 v) :: ms → s.busy = false →
      BlockStep s { s.around ms b s.line s.draws with txlen := v.extractLsb' 0 8 }
  | txBuf (w : Fin 64) (v ms b) : s.moves = .host (.write (txWordOffset w.val) .w32 v) :: ms → s.busy = false →
      BlockStep s (State.storeWord (txWordBase w) v (s.around ms b s.line s.draws))
  | send (ms l d t) : s.engineMoves → s.st.sending = true →
      SendStep (s.around ms s.bus l d) t → BlockStep s t
  | receive (ms l d t) : s.engineMoves → s.st.receiving = true →
      ReceiveStep (s.around ms s.bus l d) t → BlockStep s t
  | finish (ms t) : s.engineMoves → s.st = .rxFinish →
      FinishStep (s.around ms s.bus s.line s.draws) t → BlockStep s t

/-- A write through the busy guard to a blocked offset is dropped, or is the write itself. -/
theorem blockStep_whileIdle {s : State} {a : Offset} {v : Word} {ms : List Move} (b : BusAnswer) (f : State → State)
    (h : s.moves = .host (.write a .w32 v) :: ms) (ha : BlockedOffset a)
    (hf : s.busy = false → BlockStep s (f (s.around ms b s.line s.draws))) :
    BlockStep s (whileIdle f (s.around ms b s.line s.draws)) := by
  obtain ⟨hbusy, he⟩ | ⟨hbusy, he⟩ := whileIdle_cases f (s.around ms b s.line s.draws) <;> rw [he]
  · exact hf hbusy
  · exact .dropped a v ms b h ha hbusy

/-- A write to a mapped word other than CMD (R54, R56, R60). -/
theorem blockStep_writeTarget {s : State} {v : Word} {x : Target} {ms : List Move} (b : BusAnswer)
    (h : s.moves = .host (.write x.offset .w32 v) :: ms) :
    BlockStep s (writeTarget v x (s.around ms b s.line s.draws)) := by
  match x with
  | .reg .cmd | .reg .seq | .reg .txchk | .reg .rxhdr | .reg .rxinfo | .reg .errinfo | .rxWord _ => exact .quiet ..
  | .reg .status => exact .status v ms b h
  | .reg .cfg =>
    rw [writeTarget, writeReg]
    exact blockStep_whileIdle b _ h (.inr (.inl rfl)) fun hbusy => .cfg v ms b h hbusy
  | .reg .addr =>
    rw [writeTarget, writeReg]
    exact blockStep_whileIdle b _ h (.inr (.inr (.inl rfl))) fun hbusy => .addr v ms b h hbusy
  | .reg .txctl =>
    rw [writeTarget, writeReg]
    exact blockStep_whileIdle b _ h (.inr (.inr (.inr (.inl rfl)))) fun hbusy => .txctl v ms b h hbusy
  | .reg .txlen =>
    rw [writeTarget, writeReg]
    exact blockStep_whileIdle b _ h (.inr (.inr (.inr (.inr (.inl rfl))))) fun hbusy => .txlen v ms b h hbusy
  | .txWord w =>
    rw [writeTarget]
    exact blockStep_whileIdle b _ h (.inr (.inr (.inr (.inr (.inr ⟨w, rfl⟩))))) fun hbusy => .txBuf w v ms b h hbusy

/-- What an access reaches is named by its own offset, and only a word access reaches anything (R52). -/
theorem of_accessTarget_eq_some {a : Offset} {w : Width} {x : Target} (h : accessTarget a w = some x) :
    w = .w32 ∧ a = x.offset := by
  cases w with
  | w32 => exact ⟨rfl, Target.eq_offset_of_ofOffset h⟩
  | w8 | w16 => cases h

theorem hostAccess_cases {s t : State} {x : Access} {ms : List Move} (h : s.moves = .host x :: ms)
    (hstep : hostAccess x { s with moves := ms } = .next t) : BlockStep s t := by
  match x with
  | .read a w =>
    cases hstep
    exact .quiet ..
  | .write a w v =>
    change hostWrite a w v { s with moves := ms } = .next t at hstep
    obtain ⟨-, he⟩ | ⟨hx, he⟩ | ⟨x, hx, -, he⟩ := hostWrite_cases a w v { s with moves := ms } <;> rw [he] at hstep
    · cases hstep
      exact .quiet ..
    · obtain ⟨rfl, ha⟩ := of_accessTarget_eq_some hx
      obtain rfl : a = 0x000 := ha
      obtain ⟨hbusy, hi⟩ | ⟨hbusy, u, hi, hacc⟩ := issue_cases v (State.answer (writeAnswer false) { s with moves := ms })
        <;> rw [hi] at hstep <;> cases hstep
      · exact .dropped _ v ms _ h (.inl rfl) hbusy
      · exact .command v ms _ t h hbusy hacc
    · obtain ⟨rfl, rfl⟩ := of_accessTarget_eq_some hx
      cases hstep
      exact blockStep_writeTarget (writeAnswer false) h

theorem engineStep_cases {s t : State} {ms : List Move} (hmove : s.engineMoves)
    (hstep : engineStep { s with moves := ms } = .next t) : BlockStep s t := by
  obtain hst | hst | hst | hst := engineState_cases s.st
  · rw [engineStep_of_idle (s := { s with moves := ms }) hst] at hstep
    cases hstep
    exact .quiet ..
  · rw [engineStep_of_sending (s := { s with moves := ms }) hst] at hstep
    cases hbyte : s.txl[s.k.toNat]? with
    | none => rw [txStep_of_none (s := { s with moves := ms }) hbyte] at hstep; cases hstep
    | some x =>
      rw [txStep_of_byte (s := { s with moves := ms }) hbyte] at hstep
      cases hstep
      obtain ⟨as, d, hu⟩ := send_spec x { s with moves := ms }
      rw [hu]
      exact .send ms _ d _ hmove hst (txVerdict_cases x _ _)
  · rw [engineStep_of_receiving (s := { s with moves := ms }) hst] at hstep
    cases hstep
    obtain ⟨l, d, h⟩ := rxStep_cases (s := { s with moves := ms }) hst
    exact .receive ms l d _ hmove hst h
  · rw [engineStep_of_finish (s := { s with moves := ms }) hst] at hstep
    cases hstep
    exact .finish ms _ hmove hst (rxFinishStep_cases _)

/-- Every step does one of these things. -/
theorem blockStep_of_step {s t : State} (h : step s = .next t) : BlockStep s t := by
  obtain ⟨hm, he⟩ | ⟨ms, hm, he⟩ | ⟨x, ms, hm, he⟩ | ⟨ms, hm, he⟩ | ⟨b, ms, hm, he⟩ | ⟨ms, hm, he⟩ := step_cases s
    <;> rw [he] at h
  · exact engineStep_cases (ms := s.moves) (.inl hm) h
  · exact engineStep_cases (.inr ⟨ms, hm⟩) h
  · exact hostAccess_cases hm h
  · cases h
    unfold poll
    simp only
    split <;> exact .quiet ..
  · cases h
    exact .quiet ..
  · cases h
    exact .reset ms hm

end Sys2Proof.Machine
end

section
/-! PROOFS. The invariant (spec/10_state.md R22, R23, R28, R33, R36, R41; spec/41_protocol_a_rx.md R153 to R160;
spec/60_exceptions.md R221, R228): its parts by the engine's state, and that every step keeps it. -/

namespace Sys2Proof.Machine

/-! ### Frame lengths (R41) -/

theorem length_escA_le (d : List Byte) : (escA d).length ≤ 2 * d.length := by
  induction d with
  | nil => simp
  | cons b d ih =>
    have hb : (escByteA b).length ≤ 2 := by unfold escByteA; split <;> simp
    simp only [escA_cons, List.length_append, List.length_cons]
    omega

theorem length_frameA (a : Half) (q : BitVec 4) (t : Byte) (d : List Byte) :
    (frameA a q t d).length = 15 + (escA d).length + (postamble a).length := by
  simp only [frameA, List.length_append, List.length_cons, List.length_nil, length_csumDigits]
  omega

theorem length_stuffB_le (xs : List Byte) : (stuffB xs).length ≤ 2 * xs.length := by
  induction xs with
  | nil => simp
  | cons x xs ih =>
    have hx : (escB x).length ≤ 2 := by
      obtain ⟨-, h⟩ | ⟨-, h⟩ | ⟨-, h⟩ | ⟨-, -, -, h⟩ := escB_cases x <;> simp [h]
    simp only [stuffB_cons, List.length_append, List.length_cons]
    omega

theorem length_elemB (glob : Bool) (m ds ps : Byte) (na : Bool) (d : List Byte) :
    (elemB glob m ds ps na d).length = mflOf glob na d.length := by
  cases glob <;> cases na <;> simp [elemB, mflOf] <;> omega

theorem length_frameTxA {s : State} (h : s.txlen.toNat ≤ 40) :
    0 < s.frameTxA.length ∧ s.frameTxA.length ≤ maxFrameLen := by
  have hesc := length_escA_le s.payload
  rw [length_payload] at hesc
  have hpost : (postamble s.addr).length ≤ 64 := by rw [length_postamble]; split <;> omega
  rw [State.frameTxA, length_frameA, maxFrameLen]
  omega

theorem length_frameTxB {s : State} (h : s.mflTxB ≤ 254) :
    0 < s.frameTxB.length ∧ s.frameTxB.length ≤ maxFrameLen := by
  have hbody : s.bodyTxB.length = 4 + s.mflTxB := by
    simp only [State.bodyTxB, bodyB, List.length_append, List.length_cons, List.length_nil, length_elemB, length_payload,
      State.mflTxB]
  have hstuff := length_stuffB_le (withCrc s.params.crcBReflect s.bodyTxB)
  rw [length_withCrc, hbody] at hstuff
  rw [State.frameTxB, length_wrapB, maxFrameLen]
  omega

/-! ### Engine states -/

theorem EngineState.of_sending {e : EngineState} (h : e.sending = true) :
    e ≠ .idle ∧ e ≠ .rxReadLen ∧ e ≠ .rxExpectTrailingSyn ∧ e ≠ .rxFinish ∧ e.inData = false ∧ e.inTrailer = false := by
  cases e <;> simp_all [EngineState.sending, EngineState.inData, EngineState.inTrailer]

theorem EngineState.of_receiving {e : EngineState} (h : e.receiving = true) :
    e ≠ .idle ∧ e ≠ .rxFinish ∧ e.sending = false ∧ e.runningOp = 0x02 := by
  cases e <;> simp_all [EngineState.sending, EngineState.receiving, EngineState.runningOp]

/-- A plain advance stays in the data region or the trailer if it was there, and enters neither. -/
theorem of_mem_receiveAdvances {e e' : EngineState} (h : (e, e') ∈ receiveAdvances) :
    e'.receiving = true ∧ e'.inData = e.inData ∧ e'.inTrailer = e.inTrailer ∧ e' ≠ .rxReadLen ∧
      e' ≠ .rxExpectTrailingSyn := by
  have hall : ∀ p ∈ receiveAdvances, p.2.receiving = true ∧ p.2.inData = p.1.inData ∧ p.2.inTrailer = p.1.inTrailer ∧
      p.2 ≠ .rxReadLen ∧ p.2 ≠ .rxExpectTrailingSyn := by decide
  exact hall _ h

/-! ### The parts of the invariant -/

/-- The part of the invariant that no engine state conditions. -/
structure State.Stored (s : State) : Prop where
  memWf : s.mem.wf = true
  rxBufTail : ∀ j, Config.aMaxLen ≤ j → j < Config.bufSize → s.mem.get? (rxBase + j) = none
  seqLegal : s.seq.toNat ≤ 9
  rxLenLegal : s.rxinfo.len.toNat ≤ Config.aMaxLen

/-- The flags while a command runs. -/
structure State.Running (s : State) : Prop where
  notIdle : s.st ≠ .idle
  busy : s.busy = true
  result : s.result = .none
  op : s.op = s.st.runningOp

/-- The part of the invariant about the reply read so far (R153 to R160). -/
structure State.ReplyInv (s : State) : Prop where
  dataCount : s.st.inData = true → s.i.toNat < s.n.toNat ∧ s.n.toNat ≤ Config.aMaxLen
  trailerCount : s.st.inTrailer = true ∨ (s.st = .rxFinish ∧ s.pend = .ok) →
    s.i.toNat = s.n.toNat ∧ s.n.toNat ≤ Config.aMaxLen
  sumType : s.st = .rxReadLen → s.acc = addByte 0 s.rt
  sumData : s.st.inData = true ∨ s.st.inTrailer = true ∨ (s.st = .rxFinish ∧ s.pend = .ok) →
    s.acc = bodySum s.rt s.n s.decoded
  sumMatches : s.st = .rxExpectTrailingSyn ∨ (s.st = .rxFinish ∧ s.pend = .ok) → s.rc = loByte s.acc

theorem State.Inv.stored {s : State} (h : s.Inv) : s.Stored :=
  ⟨h.memWf, h.rxBufTail, h.seqLegal, h.rxLenLegal⟩

theorem State.Inv.running {s : State} (h : s.Inv) (hst : s.st ≠ .idle) : s.Running :=
  have hbusy := h.busyIff.mpr hst
  ⟨hst, hbusy, h.busyResult hbusy, h.opRunning hbusy⟩

theorem State.Inv.reply {s : State} (h : s.Inv) : s.ReplyInv :=
  ⟨h.dataCount, h.trailerCount, h.sumType, h.sumData, h.sumMatches⟩

theorem State.Inv.idle_of_not_busy {s : State} (h : s.Inv) (hbusy : s.busy = false) : s.st = .idle := by
  by_contra hst
  rw [h.busyIff.mpr hst] at hbusy
  cases hbusy

/-- The invariant reads none of the fields a quiet step, a dropped write or a host register write changes. -/
theorem State.Inv.of_frame {s t : State} (h : s.Inv)
    (ht : t = { s with
      wbusy := t.wbusy, proto := t.proto, addr := t.addr, txctl := t.txctl, txlen := t.txlen, line := t.line, bus := t.bus
      moves := t.moves, draws := t.draws }) : t.Inv := by
  rw [ht]
  exact { h with }

theorem inv_of_idle {s : State} (hs : s.Stored) (hst : s.st = .idle) (hbusy : s.busy = false)
    (herr : s.result.isFailure = true → s.errinfo.kind.result = s.result) : s.Inv where
  memWf := hs.memWf
  rxBufTail := hs.rxBufTail
  seqLegal := hs.seqLegal
  rxLenLegal := hs.rxLenLegal
  busyIff := by simp [hst, hbusy]
  busyResult := by simp [hbusy]
  opRunning := by simp [hbusy]
  sendIndex := by simp [hst, EngineState.sending]
  dataCount := by simp [hst, EngineState.inData]
  trailerCount := by simp [hst, EngineState.inTrailer]
  sumType := by simp [hst]
  sumData := by simp [hst, EngineState.inData, EngineState.inTrailer]
  sumMatches := by simp [hst]
  pendLegal := by simp [hst]
  errClear := by simp [hbusy]
  errPending := by simp [hst]
  errReported := herr

theorem inv_of_sending {s : State} (hs : s.Stored) (hr : s.Running) (hst : s.st.sending = true)
    (hk : s.k.toNat < s.txl.length ∧ s.txl.length ≤ maxFrameLen) (herr : s.errinfo = ErrInfo.zero) : s.Inv := by
  obtain ⟨-, hlen, hsyn, hfin, hdata, htrail⟩ := EngineState.of_sending hst
  exact {
    memWf := hs.memWf
    rxBufTail := hs.rxBufTail
    seqLegal := hs.seqLegal
    rxLenLegal := hs.rxLenLegal
    busyIff := by simp [hr.busy, hr.notIdle]
    busyResult := fun _ => hr.result
    opRunning := fun _ => hr.op
    sendIndex := fun _ => hk
    dataCount := by simp [hdata]
    trailerCount := by simp [htrail, hfin]
    sumType := by simp [hlen]
    sumData := by simp [hdata, htrail, hfin]
    sumMatches := by simp [hsyn, hfin]
    pendLegal := by simp [hfin]
    errClear := fun _ _ => herr
    errPending := by simp [hfin]
    errReported := by simp [hr.result, Result.isFailure] }

theorem inv_of_receiving {s : State} (hs : s.Stored) (hr : s.Running) (hst : s.st.receiving = true) (hy : s.ReplyInv)
    (herr : s.errinfo = ErrInfo.zero) : s.Inv := by
  obtain ⟨-, hfin, hsend, -⟩ := EngineState.of_receiving hst
  exact { hs, hy with
    busyIff := by simp [hr.busy, hr.notIdle]
    busyResult := fun _ => hr.result
    opRunning := fun _ => hr.op
    sendIndex := by simp [hsend]
    pendLegal := by simp [hfin]
    errClear := fun _ _ => herr
    errPending := by simp [hfin]
    errReported := by simp [hr.result, Result.isFailure] }

theorem inv_of_rxFinish {s : State} (hs : s.Stored) (hr : s.Running) (hst : s.st = .rxFinish) (hy : s.ReplyInv)
    (hpend : s.pend = .ok ∨ s.pend = .okAckOnly ∨ s.pend.isFailure = true)
    (hclear : s.pend.isFailure = false → s.errinfo = ErrInfo.zero)
    (herr : s.pend.isFailure = true → s.errinfo.kind.result = s.pend) : s.Inv :=
  { hs, hy with
    busyIff := by simp [hr.busy, hr.notIdle]
    busyResult := fun _ => hr.result
    opRunning := fun _ => hr.op
    sendIndex := by simp [hst, EngineState.sending]
    pendLegal := fun _ => hpend
    errClear := fun _ h => hclear (h hst)
    errPending := fun _ => herr
    errReported := by simp [hr.result, Result.isFailure] }

theorem State.Stored.of_eq {s t : State} (h : s.Stored) (hmem : t.mem = s.mem) (hseq : t.seq = s.seq)
    (hinfo : t.rxinfo = s.rxinfo) : t.Stored :=
  ⟨hmem ▸ h.memWf, hmem ▸ h.rxBufTail, hseq ▸ h.seqLegal, hinfo ▸ h.rxLenLegal⟩

/-! ### Reset and the host's moves -/

theorem State.reset_inv : State.reset.Inv :=
  inv_of_idle ⟨rfl, fun _ _ _ => rfl, by decide, by decide⟩ rfl rfl (by decide)

theorem resetNow_inv (s : State) : (resetNow s).Inv :=
  inv_of_idle (State.reset_inv.stored.of_eq rfl rfl rfl) rfl rfl State.reset_inv.errReported

theorem State.Stored.storeWord {s : State} (h : s.Stored) (w : Fin 64) (v : Word) :
    (State.storeWord (txWordBase w) v s).Stored where
  memWf := mem_wf_storeWord w v h.memWf
  rxBufTail j hj hlt := by
    have hw : ∀ c, c < 4 → txWordBase w + c ≠ rxBase + j := fun c hc => by
      simp only [txWordBase, txBase, rxBase]; omega
    rw [storeWord_mem, Memory.get?_set_of_ne (hw 3 (by omega)), Memory.get?_set_of_ne (hw 2 (by omega)),
      Memory.get?_set_of_ne (hw 1 (by omega)), Memory.get?_set_of_ne (by simpa using hw 0 (by omega))]
    exact h.rxBufTail j hj hlt
  seqLegal := h.seqLegal
  rxLenLegal := h.rxLenLegal

theorem AcceptStep.inv {d : Except DecodeError Instr} {s t : State} (h : AcceptStep d s t) (hs : s.Inv) : t.Inv := by
  cases h with
  | rejected r hr =>
    refine inv_of_idle (hs.stored.of_eq rfl rfl rfl) rfl rfl ?_
    obtain rfl | rfl := hr <;> simp [Result.isFailure]
  | seqReset => exact inv_of_idle ⟨hs.memWf, hs.rxBufTail, by simp, hs.rxLenLegal⟩ rfl rfl (by simp [Result.isFailure])
  | txA _ hlen =>
    exact inv_of_sending (hs.stored.of_eq rfl rfl rfl) ⟨by simp, rfl, rfl, rfl⟩ rfl (length_frameTxA hlen) rfl
  | ackA =>
    exact inv_of_sending (hs.stored.of_eq rfl rfl rfl) ⟨by simp, rfl, rfl, rfl⟩ rfl
      (by simp [maxFrameLen]) rfl
  | rxA =>
    exact inv_of_receiving (hs.stored.of_eq rfl rfl rfl) ⟨by simp, rfl, rfl, rfl⟩ rfl
      (by constructor <;> simp [EngineState.inData, EngineState.inTrailer]) rfl
  | txB _ hlen =>
    exact inv_of_sending (hs.stored.of_eq rfl rfl rfl) ⟨by simp, rfl, rfl, rfl⟩ rfl (length_frameTxB hlen) rfl

/-! ### The transmit step -/

theorem nextSeq_toNat (q : BitVec 4) : (nextSeq q).toNat = (q.toNat + 1) % 10 := by
  simp only [nextSeq, Config.seqMod, BitVec.toNat_ofNat]
  omega

theorem SendStep.inv {s t : State} (h : SendStep s t) (hs : s.Inv) (hst : s.st.sending = true) : t.Inv := by
  obtain ⟨hidle, -, -, hfin, -, -⟩ := EngineState.of_sending hst
  have hr := hs.running hidle
  cases h with
  | more hmore =>
    obtain ⟨hk, hlen⟩ := hs.sendIndex hst
    have herr := hs.errClear hr.busy fun h => absurd h hfin
    refine inv_of_sending (hs.stored.of_eq rfl rfl rfl) ⟨hr.notIdle, hr.busy, hr.result, hr.op⟩ hst ⟨?_, hlen⟩ herr
    have hlen522 : s.txl.length ≤ 522 := hlen
    bv_omega
  | last =>
    refine inv_of_idle ⟨hs.memWf, hs.rxBufTail, ?_, hs.rxLenLegal⟩ rfl rfl (by simp [Result.isFailure])
    simp only [finish_seq]
    split
    · rw [nextSeq_toNat]; omega
    · exact hs.seqLegal
  | failed kind b hkind => exact inv_of_idle (hs.stored.of_eq rfl rfl rfl) rfl rfl fun _ => rfl

/-! ### The receive steps -/

/-- The data index does not wrap within a legal reply (R155). -/
theorem index_succ_toNat {i : BitVec 6} (h : i.toNat < Config.aMaxLen) : (i + 1).toNat = i.toNat + 1 := by
  have h40 : i.toNat < 40 := h
  bv_omega

theorem byteAt_storeData (b : Byte) (s : State) (a : Nat) :
    (storeData b s).byteAt a = if rxBase + s.i.toNat = a then b else s.byteAt a :=
  byteAt_setRxBuf s.i.toNat b s a

/-- Storing a data byte appends it to the decoded data (R155). -/
theorem decoded_storeData {s : State} (b : Byte) (h : s.i.toNat < Config.aMaxLen) :
    (storeData b s).decoded = s.decoded ++ [b] := by
  have hi : (storeData b s).i.toNat = s.i.toNat + 1 := index_succ_toNat h
  have hold : ∀ j ∈ List.range s.i.toNat, (storeData b s).rxBuf j = s.rxBuf j := fun j hj => by
    have hj := List.mem_range.mp hj
    rw [State.rxBuf, byteAt_storeData, if_neg (by omega), State.rxBuf]
  have hnew : (storeData b s).rxBuf s.i.toNat = b := by rw [State.rxBuf, byteAt_storeData, if_pos rfl]
  rw [State.decoded, hi, List.range_succ, List.map_append, List.map_congr_left hold, List.map_singleton, hnew]
  rfl

theorem State.Stored.storeData {s : State} (h : s.Stored) (b : Byte) (hi : s.i.toNat < Config.aMaxLen) :
    (storeData b s).Stored where
  memWf := mem_wf_setRxBuf b (by simp only [Config.aMaxLen, Config.bufSize] at hi ⊢; omega) h.memWf
  rxBufTail j hj hlt := (Memory.get?_set_of_ne (by omega) b s.mem).trans (h.rxBufTail j hj hlt)
  seqLegal := h.seqLegal
  rxLenLegal := h.rxLenLegal

theorem State.ReplyInv.storeData {s : State} (h : s.ReplyInv) (b : Byte) (hst : s.st.inData = true) :
    (storeData b s).ReplyInv := by
  obtain ⟨hlt, hn⟩ := h.dataCount hst
  have hi := index_succ_toNat (i := s.i) (by omega)
  have hsum : (Machine.storeData b s).acc = bodySum s.rt s.n (Machine.storeData b s).decoded := by
    rw [decoded_storeData b (by omega), bodySum_concat, ← h.sumData (.inl hst)]
    rfl
  have hnext : ((Machine.storeData b s).st = .rxExpectDleEtx ∧ (s.i + 1).toNat = s.n.toNat) ∨
      ((Machine.storeData b s).st = .rxReadData ∧ (s.i + 1).toNat ≠ s.n.toNat) := by
    by_cases hend : (s.i + 1).toNat = s.n.toNat
    · exact .inl ⟨if_pos hend, hend⟩
    · exact .inr ⟨if_neg hend, hend⟩
  obtain ⟨he, hend⟩ | ⟨he, hend⟩ := hnext
  · exact {
      dataCount := by simp [he, EngineState.inData]
      trailerCount := fun _ => ⟨hend, hn⟩
      sumType := by simp [he]
      sumData := fun _ => hsum
      sumMatches := by simp [he] }
  · exact {
      dataCount := fun _ => ⟨show (s.i + 1).toNat < s.n.toNat by omega, hn⟩
      trailerCount := by simp [he, EngineState.inTrailer]
      sumType := by simp [he]
      sumData := fun _ => hsum
      sumMatches := by simp [he] }

/-- What a receive step does to the reply read so far. -/
theorem ReceiveStep.reply {s t : State} (h : ReceiveStep s t) (hs : s.ReplyInv) (hst : s.st.receiving = true) :
    t.ReplyInv := by
  obtain ⟨-, hfin, -, -⟩ := EngineState.of_receiving hst
  cases h with
  | advance e he =>
    obtain ⟨hrecv, hdata, htrail, hlen, hsyn⟩ := of_mem_receiveAdvances he
    obtain ⟨-, hfin', -, -⟩ := EngineState.of_receiving hrecv
    exact {
      dataCount := fun h => hs.dataCount (hdata ▸ h)
      trailerCount := fun h => hs.trailerCount (.inl (by simpa [htrail, hfin'] using h))
      sumType := fun h => absurd h hlen
      sumData := fun h => hs.sumData (by simpa [hdata, htrail, hfin', hfin] using h)
      sumMatches := by simp [hsyn, hfin'] }
  | store b hdata => exact hs.storeData b hdata
  | type b => constructor <;> simp [EngineState.inData, EngineState.inTrailer, addByte]
  | length b hlen hb =>
    have hsum : addByte s.acc b = bodySum s.rt b [] := by rw [hs.sumType hlen, bodySum_nil]
    by_cases hzero : b = 0
    · rw [if_pos hzero, hsum, hzero]
      constructor <;> simp [EngineState.inData, EngineState.inTrailer, State.decoded]
    · have hpos : 0 < b.toNat := by bv_omega
      rw [if_neg hzero, hsum]
      constructor <;> simp [EngineState.inData, EngineState.inTrailer, State.decoded, hpos, hb]
  | digitHi v h =>
    have htrail : s.st.inTrailer = true := by rw [h]; rfl
    exact {
      dataCount := by simp [EngineState.inData]
      trailerCount := fun _ => hs.trailerCount (.inl htrail)
      sumType := by simp
      sumData := fun _ => hs.sumData (.inr (.inl htrail))
      sumMatches := by simp }
  | digitLo h =>
    have htrail : s.st.inTrailer = true := by rw [h]; rfl
    exact {
      dataCount := by simp [EngineState.inData]
      trailerCount := fun _ => hs.trailerCount (.inl htrail)
      sumType := by simp
      sumData := fun _ => hs.sumData (.inr (.inl htrail))
      sumMatches := fun _ => rfl }
  | complete h =>
    have htrail : s.st.inTrailer = true := by rw [h]; rfl
    exact {
      dataCount := by simp [EngineState.inData]
      trailerCount := fun _ => hs.trailerCount (.inl htrail)
      sumType := by simp
      sumData := fun _ => hs.sumData (.inr (.inl htrail))
      sumMatches := fun _ => hs.sumMatches (.inl h) }
  | failed kind b computed rc =>
    have hok : kind.result ≠ .ok := by cases kind <;> simp [Kind.result]
    constructor <;> simp [EngineState.inData, EngineState.inTrailer, hok]
  | _ => constructor <;> simp [EngineState.inData, EngineState.inTrailer]

/-- A receive step stays in RX_A, and ends at RX_FINISH with `pend` legal or in a receiving state without a failure. -/
theorem ReceiveStep.target {s t : State} (h : ReceiveStep s t) :
    (t.st.receiving = true ∧ t.errinfo = s.errinfo) ∨
    (t.st = .rxFinish ∧ (t.pend = .ok ∨ t.pend = .okAckOnly) ∧ t.errinfo = s.errinfo) ∨
    (t.st = .rxFinish ∧ t.pend.isFailure = true ∧ t.errinfo.kind.result = t.pend) := by
  cases h with
  | advance e he => exact .inl ⟨(of_mem_receiveAdvances he).1, rfl⟩
  | ackOnly => exact .inr (.inl ⟨rfl, .inr rfl, rfl⟩)
  | complete => exact .inr (.inl ⟨rfl, .inl rfl, rfl⟩)
  | failed kind b computed rc hkind =>
    refine .inr (.inr ⟨rfl, ?_, rfl⟩)
    cases kind <;> simp_all [Kind.result, Result.isFailure]
  | store b | length b => exact .inl ⟨by simp only [storeData]; split <;> rfl, rfl⟩
  | _ => exact .inl ⟨rfl, rfl⟩

theorem ReceiveStep.stored {s t : State} (h : ReceiveStep s t) (hs : s.Inv) : t.Stored := by
  cases h with
  | store b hdata =>
    obtain ⟨hlt, hn⟩ := hs.dataCount hdata
    exact hs.stored.storeData b (by omega)
  | _ => exact hs.stored.of_eq rfl rfl rfl

theorem ReceiveStep.inv {s t : State} (h : ReceiveStep s t) (hs : s.Inv) (hst : s.st.receiving = true) : t.Inv := by
  obtain ⟨hidle, hfin, -, hop⟩ := EngineState.of_receiving hst
  have hr := hs.running hidle
  have herr := hs.errClear hr.busy fun h => absurd h hfin
  have hbusy : t.busy = true := (congrArg State.busy h.frame).trans hr.busy
  have hresult : t.result = .none := (congrArg State.result h.frame).trans hr.result
  have htop : t.op = 0x02 := (congrArg State.op h.frame).trans (hr.op.trans hop)
  have hstored := h.stored hs
  have hreply := h.reply hs.reply hst
  obtain ⟨he, hsame⟩ | ⟨he, hpend, hsame⟩ | ⟨he, hfail, hkind⟩ := h.target
  · obtain ⟨hidle', -, -, hop'⟩ := EngineState.of_receiving he
    exact inv_of_receiving hstored ⟨hidle', hbusy, hresult, htop.trans hop'.symm⟩ he hreply (hsame.trans herr)
  · refine inv_of_rxFinish hstored ⟨by simp [he], hbusy, hresult, by rw [he, htop]; rfl⟩ he hreply ?_
      (fun _ => hsame.trans herr) ?_
    · obtain h | h := hpend <;> simp [h]
    · obtain h | h := hpend <;> simp [h, Result.isFailure]
  · exact inv_of_rxFinish hstored ⟨by simp [he], hbusy, hresult, by rw [he, htop]; rfl⟩ he hreply (.inr (.inr hfail))
      (by simp [hfail]) fun _ => hkind

theorem FinishStep.inv {s t : State} (h : FinishStep s t) (hs : s.Inv) (hst : s.st = .rxFinish) : t.Inv := by
  cases h with
  | ok hp =>
    obtain ⟨-, hn⟩ := hs.trailerCount (.inr ⟨hst, hp⟩)
    exact inv_of_idle ⟨hs.memWf, hs.rxBufTail, hs.seqLegal, hn⟩ rfl rfl (by simp [Result.isFailure])
  | ackOnly => exact inv_of_idle ⟨hs.memWf, hs.rxBufTail, hs.seqLegal, by simp⟩ rfl rfl (by simp [Result.isFailure])
  | other => exact inv_of_idle (hs.stored.of_eq rfl rfl rfl) rfl rfl (hs.errPending hst)

/-! ### Every step -/

theorem BlockStep.inv {s t : State} (h : BlockStep s t) (hs : s.Inv) : t.Inv := by
  have hu : ∀ ms b l d, (s.around ms b l d).Inv := fun ms b l d => hs.of_frame rfl
  cases h with
  | quiet ms b l d => exact hu ms b l d
  | reset ms => exact resetNow_inv _
  | command v ms b t _ _ hacc => exact hacc.inv (hu ..)
  | txBuf w v ms b _ hbusy =>
    exact inv_of_idle ((hu ..).stored.storeWord w v) (hs.idle_of_not_busy hbusy) hbusy hs.errReported
  | send ms l d t _ hst hsend => exact hsend.inv (hu ..) hst
  | receive ms l d t _ hst hrecv => exact hrecv.inv (hu ..) hst
  | finish ms t _ hst hfin => exact hfin.inv (hu ..) hst
  | dropped | status | cfg | addr | txctl | txlen => exact hs.of_frame rfl

/-- Settles O3. -/
theorem resetStateIsLegal : Obligations.ResetStateIsLegal := by
  unfold Obligations.ResetStateIsLegal
  exact State.reset_inv

/-- Settles O4: each kind of step keeps the parts of the invariant that its target engine state conditions. -/
theorem stepKeepsLegalState : Obligations.StepKeepsLegalState := by
  unfold Obligations.StepKeepsLegalState
  exact fun s t hs hstep => (blockStep_of_step hstep).inv hs

end Sys2Proof.Machine
end

section
/-! PROOFS. Which step changes which register or buffer byte (spec/10_state.md R22 to R36; spec/20_memory.md R59, R60). Each
statement goes over the kinds of a step; a frame lemma discharges the kinds that do not write the field. -/

namespace Sys2Proof.Machine

/-- Settles O32, by the busy guard. -/
theorem commandsAreDroppedWhileBusy : Obligations.CommandsAreDroppedWhileBusy := by
  unfold Obligations.CommandsAreDroppedWhileBusy
  intro i s hbusy
  obtain ⟨-, h⟩ | ⟨hidle, -⟩ := exec_cases i s
  · exact h
  · simp [hbusy] at hidle

/-- Settles O33: a dropped command writes WBUSY alone; every meaning of an accepted one is a record update. -/
theorem commandFrame : Obligations.CommandFrame := by
  unfold Obligations.CommandFrame
  intro i s t hexec
  obtain ⟨hbusy, h⟩ | ⟨hidle, u, h, hacc⟩ := exec_cases i s <;> rw [h] at hexec <;> cases hexec
  · simp [State.byteAt, hbusy]
  · refine ⟨fun a => (congrArg (State.byteAt · a) hacc.frame :), ?_⟩
    cases hacc <;> simp_all

/-- Settles O16: only a dropped write, a STATUS write and reset write WBUSY. -/
theorem wbusyChangesOnlyAsSaid : Obligations.WbusyChangesOnlyAsSaid := by
  unfold Obligations.WbusyChangesOnlyAsSaid
  intro s t hstep hne
  cases blockStep_of_step hstep with
  | dropped a v ms b hm ha hbusy => exact .inl ⟨rfl, hbusy, a, v, ms, hm, ha⟩
  | reset ms hm => exact .inr ⟨rfl, .inr ⟨ms, hm⟩⟩
  | status v ms b hm =>
    have hbit : s.wbusy = true ∧ v.getLsbD 8 = true := by simpa using hne
    exact .inr ⟨by simp [hbit.2], .inl ⟨v, ms, hm, hbit.2⟩⟩
  | command | send | receive | finish =>
    rename_i h
    exact absurd (congrArg State.wbusy h.frame) hne
  | quiet | cfg | addr | txctl | txlen | txBuf => exact absurd rfl hne

theorem EngineState.txASend_of_runningOp {e : EngineState} (h : e.runningOp = 0x01) : e = .txASend := by
  cases e <;> simp_all [EngineState.runningOp]

/-- Settles O19: the bound is a part of the invariant, and in a legal state `op` names TX_A only in TX_A_SEND. -/
theorem seqChangesOnlyAsSaid : Obligations.SeqChangesOnlyAsSaid := by
  unfold Obligations.SeqChangesOnlyAsSaid
  intro s t hs hstep
  have hblock := blockStep_of_step hstep
  refine ⟨(hblock.inv hs).seqLegal, fun hne => ?_⟩
  cases hblock with
  | reset ms hm => exact .inr (.inr ⟨rfl, ms, hm⟩)
  | command v ms b t hm hbusy h =>
    cases h with
    | seqReset hd => exact .inr (.inl ⟨rfl, hbusy, v, ms, hm, hd⟩)
    | _ => exact absurd rfl hne
  | send ms l d t hmove hst h =>
    cases h with
    | last =>
      by_cases hop : s.op = 0x01
      · have hrun := (hs.running (EngineState.of_sending hst).1).op
        have htxA : s.st = .txASend := EngineState.txASend_of_runningOp (hrun.symm.trans hop)
        refine .inl ⟨htxA, hmove, rfl, rfl, ?_⟩
        simp only [finish_seq, State.around, hop, if_true]
        exact nextSeq_toNat s.seq
      · exact absurd (if_neg hop) hne
    | _ => exact absurd rfl hne
  | receive | finish =>
    rename_i h
    exact absurd (congrArg State.seq h.frame) hne
  | quiet | dropped | status | cfg | addr | txctl | txlen | txBuf => exact absurd rfl hne

/-- Settles O20: of all meanings only those of TX_A and TX_B write TXCHK. -/
theorem txchkChangesOnlyAtAcceptance : Obligations.TxchkChangesOnlyAtAcceptance := by
  unfold Obligations.TxchkChangesOnlyAtAcceptance
  intro s t hstep hne
  cases blockStep_of_step hstep with
  | reset ms hm => exact .inr (.inr ⟨rfl, ms, hm⟩)
  | command v ms b t hm hbusy h =>
    cases h with
    | txA hd => exact .inl ⟨hbusy, rfl, rfl, v, ms, hm, hd⟩
    | txB hd => exact .inr (.inl ⟨hbusy, rfl, rfl, v, ms, hm, hd⟩)
    | _ => exact absurd rfl hne
  | send | receive | finish =>
    rename_i h
    exact absurd (congrArg State.txchk h.frame) hne
  | quiet | dropped | status | cfg | addr | txctl | txlen | txBuf => exact absurd rfl hne

/-- Settles O21: only RX_FINISH writes the two registers, by its pending result. -/
theorem receiveRegistersChangeOnlyAtFinish : Obligations.ReceiveRegistersChangeOnlyAtFinish := by
  unfold Obligations.ReceiveRegistersChangeOnlyAtFinish
  intro s t hstep hreset
  cases blockStep_of_step hstep with
  | reset ms hm => exact absurd hm (hreset ms)
  | finish ms t hmove hst h =>
    cases h with
    | ok => exact ⟨fun _ => ⟨hst, hmove, rfl, rfl⟩, fun _ => ⟨hst, hmove, .inl ⟨rfl, rfl⟩⟩⟩
    | ackOnly => exact ⟨absurd rfl, fun _ => ⟨hst, hmove, .inr ⟨rfl, rfl⟩⟩⟩
    | other => exact ⟨absurd rfl, absurd rfl⟩
  | command | send | receive =>
    rename_i h
    exact ⟨absurd (congrArg State.rxhdr h.frame :), absurd (congrArg State.rxinfo h.frame :)⟩
  | quiet | dropped | status | cfg | addr | txctl | txlen | txBuf => exact ⟨absurd rfl, absurd rfl⟩

/-! ### The host's registers -/

/-- The merge changes bit 15 alone (R163). -/
theorem mergeNoReply_bits (addr ra : Half) :
    (mergeNoReply addr ra).getLsbD 15 = ra.getLsbD 15 ∧
      (mergeNoReply addr ra).extractLsb' 0 15 = addr.extractLsb' 0 15 := by
  have hbits (j : Nat) : (mergeNoReply addr ra).getLsbD j =
      if j < 15 then (addr.extractLsb' 0 15).getLsbD j else (BitVec.ofBool (ra.getLsbD 15)).getLsbD (j - 15) :=
    BitVec.getLsbD_append
  refine ⟨(hbits 15).trans (by simp), BitVec.eq_of_getLsbD_eq fun j hj => ?_⟩
  simp [hbits, hj]

/-- Settles O22: each register has its one host write, and ADDR the merge of RX_FINISH besides. -/
theorem hostRegistersChangeOnlyAsSaid : Obligations.HostRegistersChangeOnlyAsSaid := by
  unfold Obligations.HostRegistersChangeOnlyAsSaid
  intro s t hstep hreset
  cases blockStep_of_step hstep with
  | reset ms hm => exact absurd hm (hreset ms)
  | addr v ms b hm hbusy =>
    exact ⟨fun _ => .inl ⟨hbusy, v, ms, hm, rfl⟩, absurd rfl, absurd rfl, absurd rfl⟩
  | cfg v ms b hm hbusy => exact ⟨absurd rfl, fun _ => ⟨hbusy, v, ms, hm, rfl⟩, absurd rfl, absurd rfl⟩
  | txctl v ms b hm hbusy => exact ⟨absurd rfl, absurd rfl, fun _ => ⟨hbusy, v, ms, hm, rfl⟩, absurd rfl⟩
  | txlen v ms b hm hbusy => exact ⟨absurd rfl, absurd rfl, absurd rfl, fun _ => ⟨hbusy, v, ms, hm, rfl⟩⟩
  | finish ms t hmove hst h =>
    cases h with
    | ok =>
      obtain ⟨hbit, hrest⟩ := mergeNoReply_bits s.addr s.ra
      exact ⟨fun _ => .inr ⟨hst, hmove, rfl, hbit, hrest⟩, absurd rfl, absurd rfl, absurd rfl⟩
    | ackOnly | other => exact ⟨absurd rfl, absurd rfl, absurd rfl, absurd rfl⟩
  | command | send | receive =>
    rename_i h
    exact ⟨absurd (congrArg State.addr h.frame :), absurd (congrArg State.proto h.frame :),
      absurd (congrArg State.txctl h.frame :), absurd (congrArg State.txlen h.frame :)⟩
  | quiet | dropped | status | txBuf => exact ⟨absurd rfl, absurd rfl, absurd rfl, absurd rfl⟩

/-! ### Buffer bytes -/

/-- A TXBUF word write changes its own four bytes only (R56). -/
theorem storeWord_changes {w : Fin 64} {v : Word} {s : State} {a : Nat}
    (h : (State.storeWord (txWordBase w) v s).byteAt a ≠ s.byteAt a) :
    0x100 + 4 * w.val ≤ a ∧ a < 0x100 + 4 * w.val + 4 := by
  by_contra hout
  apply h
  have hbase : txWordBase w = 0x100 + 4 * w.val := rfl
  rw [byteAt_storeWord]
  rw [if_neg (by omega), if_neg (by omega), if_neg (by omega), if_neg (by omega)]

/-- A receive step changes no buffer byte but the one it decodes (R155). -/
theorem ReceiveStep.byteAt_changes {s t : State} (h : ReceiveStep s t) {a : Nat} (hne : t.byteAt a ≠ s.byteAt a) :
    s.st.inData = true ∧ a = 0x200 + s.i.toNat := by
  cases h with
  | store b hdata =>
    refine ⟨hdata, ?_⟩
    by_contra hout
    rw [byteAt_storeData, if_neg (fun heq => hout heq.symm)] at hne
    exact hne rfl
  | _ => exact absurd rfl hne

/-- Settles O24: only a TXBUF word write and a stored data byte write the buffers. -/
theorem bufferBytesChangeOnlyAsSaid : Obligations.BufferBytesChangeOnlyAsSaid := by
  unfold Obligations.BufferBytesChangeOnlyAsSaid
  intro s t a hstep hreset hne
  cases blockStep_of_step hstep with
  | reset ms hm => exact absurd hm (hreset ms)
  | txBuf w v ms b hm hbusy => exact .inl ⟨hbusy, w, v, ms, hm, storeWord_changes hne⟩
  | receive ms l d t hmove _ h =>
    obtain ⟨hdata, ha⟩ := h.byteAt_changes hne
    refine .inr ⟨?_, hmove, ha⟩
    cases hst : s.st <;> simp_all [EngineState.inData]
  | command | send | finish =>
    rename_i h
    exact absurd (congrArg (State.byteAt · a) h.frame) hne
  | quiet | dropped | status | cfg | addr | txctl | txlen => exact absurd rfl hne

end Sys2Proof.Machine
end

section
/-! PROOFS. Who writes BUSY, RESULT and ERRINFO (spec/10_state.md R22, R23, R34; spec/60_exceptions.md R221, R222, R228). -/

namespace Sys2Proof.Machine

/-- A command is what its OP names (R81). -/
theorem opField_of_decode {v : Word} {i : Instr} (h : decode v = .ok i) : opField v = i.op := by
  simp only [decode, decodeOp] at h
  split_ifs at h with h1 h2 h3 h4 h5 h6 <;> cases h <;> assumption

/-- An acceptance that leaves BUSY = 1 started one of the four commands that need the transport (R80). -/
theorem AcceptStep.started {v : Word} {s t : State} (h : AcceptStep (decode v) s t) (hbusy : t.busy = true) :
    t.result = .none ∧ t.errinfo = ErrInfo.zero ∧ ∃ i, decode v = .ok i ∧
      (i = .txA ∨ i = .rxA ∨ i = .ackA ∨ i = .txB) ∧ t.op = v.extractLsb' 0 8 := by
  cases h with
  | rejected | seqReset => cases hbusy
  | txA hd => exact ⟨rfl, rfl, _, hd, .inl rfl, (opField_of_decode hd).symm⟩
  | rxA hd => exact ⟨rfl, rfl, _, hd, .inr (.inl rfl), (opField_of_decode hd).symm⟩
  | ackA hd => exact ⟨rfl, rfl, _, hd, .inr (.inr (.inl rfl)), (opField_of_decode hd).symm⟩
  | txB hd => exact ⟨rfl, rfl, _, hd, .inr (.inr (.inr rfl)), (opField_of_decode hd).symm⟩

/-- An acceptance that leaves BUSY = 0 reports a result at once and keeps ERRINFO (R222). -/
theorem AcceptStep.completed {v : Word} {s t : State} (h : AcceptStep (decode v) s t) (hbusy : t.busy = false) :
    t.errinfo = s.errinfo ∧
      ((t.result = .ok ∧ decode v = .ok .seqReset) ∨ t.result = .unsupported ∨ t.result = .invalidArgument) := by
  cases h with
  | rejected r hr => exact ⟨rfl, .inr hr⟩
  | seqReset hd => exact ⟨rfl, .inl ⟨rfl, hd⟩⟩
  | txA | rxA | ackA | txB => cases hbusy

/-- A transmit step that changes BUSY or RESULT ends the command (R114). -/
theorem SendStep.ended {s t : State} (h : SendStep s t) (hne : t.busy ≠ s.busy ∨ t.result ≠ s.result) :
    t.busy = false ∧ t.st = .idle ∧ (t.result = .ok ∨ t.result = .timeout ∨ t.result = .ioFailure) := by
  cases h with
  | more => simp at hne
  | last => exact ⟨rfl, rfl, .inl rfl⟩
  | failed kind b hkind =>
    refine ⟨rfl, rfl, .inr ?_⟩
    obtain rfl | rfl := hkind
    · exact .inl rfl
    · exact .inr rfl

/-- The RX_FINISH step reports the pending result and clears BUSY (R162). -/
theorem FinishStep.reports {s t : State} (h : FinishStep s t) :
    t.busy = false ∧ t.st = .idle ∧ t.result = s.pend ∧ t.errinfo = s.errinfo := by
  cases h with
  | ok hp | ackOnly hp => exact ⟨rfl, rfl, hp.symm, rfl⟩
  | other => exact ⟨rfl, rfl, rfl, rfl⟩

/-- A transmit step that changes ERRINFO names its state and a kind that goes with the result (R221, R228). -/
theorem SendStep.errinfo_changes {s t : State} (h : SendStep s t) (hne : t.errinfo ≠ s.errinfo) :
    t.errinfo.kind ≠ .none ∧ t.errinfo.kind ≠ .unexpected ∧ t.errinfo.state = s.st.code ∧ t.st = .idle ∧
      t.result = t.errinfo.kind.result := by
  cases h with
  | more | last => exact absurd rfl hne
  | failed kind b hkind =>
    obtain rfl | rfl := hkind <;> exact ⟨by simp [raise], by simp [raise], rfl, rfl, rfl⟩

/-- A receive step that changes ERRINFO is a failure, under the code its state reports (R142, R144, R228). -/
theorem ReceiveStep.errinfo_changes {s t : State} (h : ReceiveStep s t) (hne : t.errinfo ≠ s.errinfo) :
    t.errinfo.kind ≠ .none ∧ t.errinfo.state = failureCode s.st t.errinfo.kind ∧ t.st = .rxFinish ∧
      t.pend = t.errinfo.kind.result := by
  cases h with
  | failed kind b computed rc hkind => exact ⟨hkind, rfl, rfl, rfl⟩
  | _ => exact absurd rfl hne

/-- Settles O23, one clause at a time over the kinds of a step. -/
theorem statusAndErrinfoChangeOnlyAsSaid : Obligations.StatusAndErrinfoChangeOnlyAsSaid := by
  unfold Obligations.StatusAndErrinfoChangeOnlyAsSaid
  intro s t hstep hreset
  have hblock := blockStep_of_step hstep
  refine ⟨fun hset hclear => ?set, fun hclear hset => ?clear, fun hne => ?result, fun hne => ?errinfo⟩
  case set =>
    cases hblock with
    | reset ms hm => exact absurd hm (hreset ms)
    | command v ms b t hm _ h =>
      obtain ⟨hresult, herr, i, hrest⟩ := h.started hset
      exact ⟨hresult, herr, v, ms, i, hm, hrest⟩
    | send ms l d t _ _ h =>
      have hends := (h.ended (.inl (by simp [hset, hclear]))).1
      simp [hset] at hends
    | finish ms t _ _ h => simp [h.reports.1] at hset
    | receive ms l d t _ _ h => exact absurd (hset.symm.trans (congrArg State.busy h.frame)) (by simp [hclear])
    | quiet | dropped | status | cfg | addr | txctl | txlen | txBuf => simp_all
  case clear =>
    cases hblock with
    | reset ms hm => exact absurd hm (hreset ms)
    | command v ms b t _ hbusy => simp [hset] at hbusy
    | send ms l d t hmove hst h =>
      obtain ⟨-, hidle, hresult⟩ := h.ended (.inl (by simp [hset, hclear]))
      exact ⟨hmove, hidle, .inl ⟨hst, hresult⟩⟩
    | finish ms t hmove hst h =>
      obtain ⟨-, hidle, hresult, -⟩ := h.reports
      exact ⟨hmove, hidle, .inr ⟨hst, hresult⟩⟩
    | receive ms l d t _ _ h => exact absurd (hclear.symm.trans (congrArg State.busy h.frame)) (by simp [hset])
    | quiet | dropped | status | cfg | addr | txctl | txlen | txBuf => simp_all
  case result =>
    cases hblock with
    | reset ms hm => exact absurd hm (hreset ms)
    | command v ms b t hm hbusy h =>
      exact .inl ⟨hbusy, v, ms, hm, fun hb => (h.started hb).1, fun hb => (h.completed hb).2⟩
    | send ms l d t hmove hst h => exact .inr ⟨hmove, .inl hst, (h.ended (.inr hne)).1⟩
    | finish ms t hmove hst h => exact .inr ⟨hmove, .inr hst, h.reports.1⟩
    | receive ms l d t _ _ h => exact absurd (congrArg State.result h.frame) hne
    | quiet | dropped | status | cfg | addr | txctl | txlen | txBuf => exact absurd rfl hne
  case errinfo =>
    cases hblock with
    | reset ms hm => exact absurd hm (hreset ms)
    | command v ms b t _ hbusy h =>
      cases hb : t.busy with
      | true =>
        obtain ⟨-, hzero, -⟩ := h.started hb
        exact .inl ⟨hbusy, rfl, hzero⟩
      | false => exact absurd (h.completed hb).1 hne
    | send ms l d t hmove hst h =>
      obtain ⟨hkind, hunexpected, hcode, hidle, hresult⟩ := h.errinfo_changes hne
      exact .inr ⟨hmove, hkind, by simp [hunexpected, hcode], .inl ⟨hst, hidle, hresult⟩⟩
    | receive ms l d t hmove hst h =>
      obtain ⟨hkind, hcode, hfin, hpend⟩ := h.errinfo_changes hne
      exact .inr ⟨hmove, hkind, hcode, .inr ⟨hst, hfin, hpend⟩⟩
    | finish ms t _ _ h =>
      obtain ⟨-, -, -, hsame⟩ := h.reports
      exact absurd hsame hne
    | quiet | dropped | status | cfg | addr | txctl | txlen | txBuf => exact absurd rfl hne

end Sys2Proof.Machine
end

section
/-! PROOFS. Reset (spec/10_state.md R42; spec/70_reset_and_hazards.md R250) and the host bus: what a read answers, the fields
and reserved bits of the registers (spec/10_state.md R20), which writes are dropped or ignored (spec/20_memory.md R54 to R60). -/

namespace Sys2Proof.Machine

/-! ### Reset -/

theorem readReg_reset (r : Reg) : readReg State.reset r = 0 := by cases r <;> decide

theorem readReg_resetNow (s : State) (r : Reg) : readReg (resetNow s) r = 0 := by
  rw [← readReg_reset r]
  cases r <;> rfl

/-- Settles O1. -/
theorem registersReadZeroAfterReset : Obligations.RegistersReadZeroAfterReset := by
  unfold Obligations.RegistersReadZeroAfterReset
  exact ⟨readReg_reset, rfl, fun _ => rfl⟩

/-- Settles O2. -/
theorem resetInputResetsInOneStep : Obligations.ResetInputResetsInOneStep := by
  unfold Obligations.ResetInputResetsInOneStep
  intro s ms hm
  exact ⟨_, step_of_reset hm, readReg_resetNow _, rfl, fun _ => rfl, rfl, rfl, rfl⟩

/-! ### One host access -/

/-- A word access at a target's own offset reaches it (R51). -/
@[simp] theorem ofOffset_offset (x : Target) : Target.ofOffset x.offset = some x := by
  match x with
  | .reg r => exact Target.ofOffset_reg r
  | .txWord w => exact Target.ofOffset_txWord w
  | .rxWord w => exact Target.ofOffset_rxWord w

/-- The value of a target depends on the registers and buffers alone. -/
theorem readTarget_around (s : State) (ms : List Move) (b : BusAnswer) (l : Line) (d : Nat) (x : Target) :
    readTarget (s.around ms b l d) x = readTarget s x := by
  match x with
  | .reg r => cases r <;> rfl
  | .txWord _ | .rxWord _ => rfl

theorem step_of_read {s : State} {ms : List Move} {a : Offset} {x : Target} (ha : Target.ofOffset a = some x)
    (h : s.moves = .host (.read a .w32) :: ms) :
    step s = .next { s with moves := ms, bus := { data := readTarget s x, err := false } } := by
  rw [step_of_host h]
  simp only [hostAccess, hostRead, memRead_of_target { s with moves := ms } (accessTarget_w32 a ▸ ha)]
  exact congrArg _ (congrArg (fun v => { s with moves := ms, bus := { data := v, err := false } })
    (readTarget_around s ms s.bus s.line s.draws x))

theorem step_of_write {s : State} {ms : List Move} {v : Word} {x : Target} (hx : x ≠ .reg .cmd)
    (h : s.moves = .host (.write x.offset .w32 v) :: ms) :
    step s = .next (writeTarget v x { s with moves := ms, bus := { data := 0, err := false } }) := by
  rw [step_of_host h]
  exact hostWrite_of_target v { s with moves := ms } (by simp) hx

/-! ### Register fields -/

section Fields

open BitVec (extractLsb'_append_eq_right extractLsb'_append_eq_of_le)

theorem getLsbD_append_of_le {v w i : Nat} {x : BitVec v} {y : BitVec w} (h : w ≤ i) :
    (x ++ y).getLsbD i = x.getLsbD (i - w) := by
  rw [BitVec.getLsbD_append, if_neg (by omega)]

theorem getLsbD_append_ofBool {v : Nat} {x : BitVec v} {b : Bool} : (x ++ BitVec.ofBool b).getLsbD 0 = b := by
  rw [BitVec.getLsbD_append, if_pos (by decide)]
  simp

theorem statusWord_fields (s : State) :
    (statusWord s).getLsbD 0 = s.busy ∧ (statusWord s).extractLsb' 4 4 = s.result.code ∧
      (statusWord s).getLsbD 8 = s.wbusy :=
  ⟨getLsbD_append_ofBool,
    (extractLsb'_append_eq_of_le (by decide)).trans
      ((extractLsb'_append_eq_of_le (by decide)).trans extractLsb'_append_eq_right),
    (getLsbD_append_of_le (by decide)).trans ((getLsbD_append_of_le (by decide)).trans
      ((getLsbD_append_of_le (by decide)).trans getLsbD_append_ofBool))⟩

theorem txctlWord_fields (c : TxCtl) :
    (txctlWord c).extractLsb' 0 8 = c.mtype ∧ (txctlWord c).extractLsb' 8 8 = c.dsn ∧
      (txctlWord c).extractLsb' 16 8 = c.psn ∧ (txctlWord c).getLsbD 24 = c.melNa :=
  ⟨extractLsb'_append_eq_right, (extractLsb'_append_eq_of_le (by decide)).trans extractLsb'_append_eq_right,
    (extractLsb'_append_eq_of_le (by decide)).trans
      ((extractLsb'_append_eq_of_le (by decide)).trans extractLsb'_append_eq_right),
    (getLsbD_append_of_le (by decide)).trans ((getLsbD_append_of_le (by decide)).trans
      ((getLsbD_append_of_le (by decide)).trans getLsbD_append_ofBool))⟩

theorem rxhdrWord_fields (h : RxHdr) :
    (rxhdrWord h).extractLsb' 0 16 = h.addr ∧ (rxhdrWord h).extractLsb' 16 8 = h.seq ∧
      (rxhdrWord h).extractLsb' 24 8 = h.mtype :=
  ⟨extractLsb'_append_eq_right, (extractLsb'_append_eq_of_le (by decide)).trans extractLsb'_append_eq_right,
    (extractLsb'_append_eq_of_le (by decide)).trans
      ((extractLsb'_append_eq_of_le (by decide)).trans BitVec.extractLsb'_eq_self)⟩

theorem rxinfoWord_fields (x : RxInfo) :
    (rxinfoWord x).extractLsb' 0 8 = x.len ∧ (rxinfoWord x).extractLsb' 8 8 = x.csum :=
  ⟨extractLsb'_append_eq_right, (extractLsb'_append_eq_of_le (by decide)).trans extractLsb'_append_eq_right⟩

theorem errinfoWord_fields (e : ErrInfo) :
    (errinfoWord e).extractLsb' 0 5 = e.state ∧ (errinfoWord e).extractLsb' 5 3 = e.kind.code ∧
      (errinfoWord e).extractLsb' 8 8 = e.byte ∧ (errinfoWord e).extractLsb' 16 8 = e.computed :=
  ⟨extractLsb'_append_eq_right, (extractLsb'_append_eq_of_le (by decide)).trans extractLsb'_append_eq_right,
    (extractLsb'_append_eq_of_le (by decide)).trans
      ((extractLsb'_append_eq_of_le (by decide)).trans extractLsb'_append_eq_right),
    (extractLsb'_append_eq_of_le (by decide)).trans ((extractLsb'_append_eq_of_le (by decide)).trans
      ((extractLsb'_append_eq_of_le (by decide)).trans extractLsb'_append_eq_right))⟩

/-- A field that fills a register from bit 0 reads back from there. -/
theorem setWidth_field {w : Nat} (x : BitVec w) (hw : w ≤ 32) : (x.setWidth 32).extractLsb' 0 w = x :=
  (BitVec.extractLsb'_setWidth_of_le (by omega)).trans BitVec.extractLsb'_eq_self

end Fields

/-- Settles O13, register by register. -/
theorem registerFieldsAtTheirBits : Obligations.RegisterFieldsAtTheirBits := by
  unfold Obligations.RegisterFieldsAtTheirBits
  intro s
  have hcfg : (readReg s .cfg).getLsbD 0 = (s.proto == .b) := by
    simp only [readReg]
    cases s.proto <;> rfl
  exact ⟨statusWord_fields s, hcfg, setWidth_field s.addr (by decide), setWidth_field s.seq (by decide),
    txctlWord_fields s.txctl, setWidth_field s.txlen (by decide), setWidth_field s.txchk (by decide),
    rxhdrWord_fields s.rxhdr, rxinfoWord_fields s.rxinfo, errinfoWord_fields s.errinfo, rfl, rfl, rfl⟩

/-- POLL answers STATUS, and comes again after one engine step while BUSY = 1 (R87). -/
theorem poll_eq (s : State) :
    poll s = { s with
      bus := { data := readReg s .status, err := false }
      moves := if s.busy then .engine :: .poll :: s.moves else s.moves } := by
  have hread : memRead s Reg.status.offset .w32 = { data := statusWord s, err := false } :=
    memRead_of_target s ((accessTarget_w32 _).trans (Target.ofOffset_reg .status))
  simp only [poll, hostRead, hread, answer_bus, (statusWord_fields s).1, readReg]
  split <;> rfl

/-- Settles O12: a read answers its target's value, and POLL is a read of STATUS. -/
theorem readsAnswerAndChangeNothing : Obligations.ReadsAnswerAndChangeNothing := by
  unfold Obligations.ReadsAnswerAndChangeNothing
  intro s ms
  refine ⟨fun r hm => step_of_read (Target.ofOffset_reg r) hm, fun w hm => step_of_read (Target.ofOffset_txWord w) hm,
    fun w hm => step_of_read (Target.ofOffset_rxWord w) hm, fun hm => ?poll, rfl⟩
  rw [step_of_poll hm, poll_eq]
  rfl

/-! ### Reserved bits -/

/-- The bits above a field that fills a register from bit 0 read 0. -/
theorem setWidth_and_shiftLeft {w : Nat} (x : BitVec w) (m : Word) : x.setWidth 32 &&& m <<< w = 0 := by
  apply BitVec.eq_of_getLsbD_eq
  intro j hj
  by_cases h : j < w
  · simp [h]
  · simp [BitVec.getLsbD_of_ge x j (by omega)]

theorem statusWord_reserved (s : State) : statusWord s &&& 0xFFFFFE0E = 0 := by
  have hmask : (0#23 ++ BitVec.ofBool s.wbusy ++ s.result.code ++ 0#3 ++ BitVec.ofBool s.busy) &&&
      (BitVec.allOnes 23 ++ 0#1 ++ 0#4 ++ 7#3 ++ 0#1) = 0 := by
    simp only [BitVec.and_append, BitVec.and_zero, BitVec.zero_and]
    rfl
  exact hmask

theorem txctlWord_reserved (c : TxCtl) : txctlWord c &&& 0xFE000000 = 0 := by
  have hmask : (0#7 ++ BitVec.ofBool c.melNa ++ c.psn ++ c.dsn ++ c.mtype) &&&
      (BitVec.allOnes 7 ++ 0#1 ++ 0#8 ++ 0#8 ++ 0#8) = 0 := by
    simp only [BitVec.and_append, BitVec.and_zero, BitVec.zero_and]
    rfl
  exact hmask

theorem rxinfoWord_reserved (x : RxInfo) : rxinfoWord x &&& 0xFFFF0000 = 0 := by
  have hmask : (0#16 ++ x.csum ++ x.len) &&& (BitVec.allOnes 16 ++ 0#8 ++ 0#8) = 0 := by
    simp only [BitVec.and_append, BitVec.and_zero, BitVec.zero_and]
    rfl
  exact hmask

theorem errinfoWord_reserved (e : ErrInfo) : errinfoWord e &&& 0xFF000000 = 0 := by
  have hmask : (0#8 ++ e.computed ++ e.byte ++ e.kind.code ++ e.state) &&&
      (BitVec.allOnes 8 ++ 0#8 ++ 0#8 ++ 0#3 ++ 0#5) = 0 := by
    simp only [BitVec.and_append, BitVec.and_zero, BitVec.zero_and]
    rfl
  exact hmask

/-! ### Host register writes -/

/-- The low `w` bits of a written word. -/
theorem setWidth_extractLsb'_eq_and {w : Nat} (v : Word) :
    (v.extractLsb' 0 w).setWidth 32 = v &&& (BitVec.allOnes w).setWidth 32 := by
  apply BitVec.eq_of_getLsbD_eq
  intro j hj
  simp [hj, Bool.and_comm]

theorem ofBool_getLsbD {w : Nat} (v : BitVec w) (j : Nat) : BitVec.ofBool (v.getLsbD j) = v.extractLsb' j 1 := by
  apply BitVec.eq_of_getLsbD_eq
  intro i hi
  obtain rfl : i = 0 := by omega
  simp

/-- TXCTL keeps bits [24:0] of a written word (R29, R55). -/
theorem txctlWord_txctlOfWord (v : Word) : txctlWord (txctlOfWord v) = v &&& 0x01FFFFFF := by
  have hsplit : v.extractLsb' 25 7 ++ v.extractLsb' 24 1 ++ v.extractLsb' 16 8 ++ v.extractLsb' 8 8 ++
      v.extractLsb' 0 8 = v := by
    rw [BitVec.extractLsb'_append_extractLsb'_eq_extractLsb' (by decide),
      BitVec.extractLsb'_append_extractLsb'_eq_extractLsb' (by decide),
      BitVec.extractLsb'_append_extractLsb'_eq_extractLsb' (by decide),
      BitVec.extractLsb'_append_extractLsb'_eq_extractLsb' (by decide)]
    exact BitVec.extractLsb'_eq_self
  have hmask : (v.extractLsb' 25 7 ++ v.extractLsb' 24 1 ++ v.extractLsb' 16 8 ++ v.extractLsb' 8 8 ++
      v.extractLsb' 0 8) &&&
        (0#7 ++ BitVec.allOnes 1 ++ BitVec.allOnes 8 ++ BitVec.allOnes 8 ++ BitVec.allOnes 8) =
      0#7 ++ BitVec.ofBool (v.getLsbD 24) ++ v.extractLsb' 16 8 ++ v.extractLsb' 8 8 ++ v.extractLsb' 0 8 := by
    simp only [BitVec.and_append, BitVec.and_zero, BitVec.and_allOnes, ofBool_getLsbD]
  rw [hsplit] at hmask
  exact hmask.symm

/-- The host's own registers, each with the mask of its field bits (R25, R26, R29, R30). -/
def hostRegisters : List (Reg × Word) :=
  [(.cfg, 0x00000001), (.addr, 0x0000FFFF), (.txctl, 0x01FFFFFF), (.txlen, 0x000000FF)]

/-- A host register holds the field bits of what is written to it. -/
theorem readReg_writeReg_self {s : State} (hbusy : s.busy = false) (v : Word) {r : Reg} {mask : Word}
    (h : (r, mask) ∈ hostRegisters) : readReg (writeReg v r s) r = v &&& mask := by
  simp only [hostRegisters, List.mem_cons, Prod.mk.injEq, List.not_mem_nil, or_false] at h
  obtain ⟨rfl, rfl⟩ | ⟨rfl, rfl⟩ | ⟨rfl, rfl⟩ | ⟨rfl, rfl⟩ := h <;> rw [writeReg, whileIdle_of_idle hbusy]
  · have hbit : (Proto.ofBit (v.getLsbD 0)).bit = v.getLsbD 0 := by cases v.getLsbD 0 <;> rfl
    simp only [readReg, hbit, ofBool_getLsbD]
    exact setWidth_extractLsb'_eq_and v
  · exact setWidth_extractLsb'_eq_and v
  · exact txctlWord_txctlOfWord v
  · exact setWidth_extractLsb'_eq_and v

/-- A write of a host register changes no other register. -/
theorem readReg_writeReg_of_ne {s : State} (hbusy : s.busy = false) (v : Word) {r r' : Reg} {mask : Word}
    (h : (r, mask) ∈ hostRegisters) (hne : r' ≠ r) : readReg (writeReg v r s) r' = readReg s r' := by
  simp only [hostRegisters, List.mem_cons, Prod.mk.injEq, List.not_mem_nil, or_false] at h
  obtain ⟨rfl, rfl⟩ | ⟨rfl, rfl⟩ | ⟨rfl, rfl⟩ | ⟨rfl, rfl⟩ := h <;> rw [writeReg, whileIdle_of_idle hbusy] <;>
    cases r' <;> simp_all [readReg, statusWord]

/-- What a write of a host register leaves alone. -/
theorem writeReg_frame {s : State} (hbusy : s.busy = false) (v : Word) {r : Reg} {mask : Word}
    (h : (r, mask) ∈ hostRegisters) :
    writeReg v r s = { s with
      proto := (writeReg v r s).proto, addr := (writeReg v r s).addr, txctl := (writeReg v r s).txctl
      txlen := (writeReg v r s).txlen } := by
  simp only [hostRegisters, List.mem_cons, Prod.mk.injEq, List.not_mem_nil, or_false] at h
  obtain ⟨rfl, rfl⟩ | ⟨rfl, rfl⟩ | ⟨rfl, rfl⟩ | ⟨rfl, rfl⟩ := h <;> simp only [writeReg, whileIdle_of_idle hbusy]

theorem readReg_around (s : State) (ms : List Move) (b : BusAnswer) (l : Line) (d : Nat) (r : Reg) :
    readReg (s.around ms b l d) r = readReg s r :=
  readTarget_around s ms b l d (.reg r)

/-- Settles O14: register by register for the reserved bits; a host register's write keeps what its mask selects. -/
theorem reservedBitsReadZeroAndDiscardWrites : Obligations.ReservedBitsReadZeroAndDiscardWrites := by
  unfold Obligations.ReservedBitsReadZeroAndDiscardWrites
  refine ⟨fun s => ⟨rfl, statusWord_reserved s, setWidth_and_shiftLeft (BitVec.ofBool s.proto.bit) 0x7FFFFFFF,
    setWidth_and_shiftLeft s.addr 0xFFFF, setWidth_and_shiftLeft s.seq 0x0FFFFFFF, txctlWord_reserved s.txctl,
    setWidth_and_shiftLeft s.txlen 0x00FFFFFF, setWidth_and_shiftLeft s.txchk 0xFFFF, rxinfoWord_reserved s.rxinfo,
    errinfoWord_reserved s.errinfo⟩, fun s ms v r mask hr hm hbusy => ?_⟩
  have hcmd : Target.reg r ≠ .reg .cmd := by rintro ⟨⟩; simp at hr
  have hidle : (s.around ms { data := 0, err := false } s.line s.draws).busy = false := hbusy
  have hframe := writeReg_frame hidle v hr
  refine ⟨_, step_of_write hcmd hm, readReg_writeReg_self hidle v hr, fun r' hne => ?_, fun a => ?_, ?_, ?_, ?_, ?_⟩
  · exact (readReg_writeReg_of_ne hidle v hr hne).trans (readReg_around s ms _ s.line s.draws r')
  · exact (congrArg (State.byteAt · a) hframe :)
  · exact (congrArg State.st hframe :)
  · exact (congrArg State.moves hframe :)
  · exact (congrArg State.line hframe :)
  · exact (congrArg State.bus hframe :)

/-! ### Dropped and ignored writes -/

/-- Settles O15: the blocked offsets go through the busy guard; the read-only ones reach no state. -/
theorem writesAreDroppedOrIgnored : Obligations.WritesAreDroppedOrIgnored := by
  unfold Obligations.WritesAreDroppedOrIgnored
  intro s ms a v
  refine ⟨fun hm ha hbusy => ?blocked, fun hm ha => ?readOnly, fun hm => ?status, fun x hm hx => step_of_read hx hm⟩
  case blocked =>
    obtain rfl | rfl | rfl | rfl | rfl | ⟨w, rfl⟩ := ha
    · obtain ⟨-, h⟩ | ⟨hidle, -⟩ := issue_cases v (s.around ms { data := 0, err := false } s.line s.draws)
      · exact (step_of_cmdWrite hm).trans h
      · exact absurd (hbusy.symm.trans hidle) (by simp)
    · rw [step_of_write (x := .reg .cfg) (by simp) hm, writeTarget, writeReg, whileIdle_of_busy]
      exact hbusy
    · rw [step_of_write (x := .reg .addr) (by simp) hm, writeTarget, writeReg, whileIdle_of_busy]
      exact hbusy
    · rw [step_of_write (x := .reg .txctl) (by simp) hm, writeTarget, writeReg, whileIdle_of_busy]
      exact hbusy
    · rw [step_of_write (x := .reg .txlen) (by simp) hm, writeTarget, writeReg, whileIdle_of_busy]
      exact hbusy
    · rw [step_of_write (x := .txWord w) (by simp) hm, writeTarget, whileIdle_of_busy]
      exact hbusy
  case readOnly =>
    obtain rfl | rfl | rfl | rfl | rfl | ⟨w, rfl⟩ := ha
    · exact step_of_write (x := .reg .seq) (by simp) hm
    · exact step_of_write (x := .reg .txchk) (by simp) hm
    · exact step_of_write (x := .reg .rxhdr) (by simp) hm
    · exact step_of_write (x := .reg .rxinfo) (by simp) hm
    · exact step_of_write (x := .reg .errinfo) (by simp) hm
    · exact step_of_write (x := .rxWord w) (by simp) hm
  case status =>
    rw [step_of_write (x := .reg .status) (by simp) hm]
    simp only [writeTarget, writeReg, writeStatus]
    cases v.getLsbD 8 <;> simp

end Sys2Proof.Machine
end

section
/-! PROOFS. LOADTX (spec/30_encoding.md R86, R87): the word writes of a list, run one by one, and what they leave in TXBUF. -/

namespace Sys2Proof.Machine

/-- Byte `j` of a packed word (R56). -/
theorem wordByte_packWord (b0 b1 b2 b3 : Byte) :
    wordByte (packWord b0 b1 b2 b3) 0 = b0 ∧ wordByte (packWord b0 b1 b2 b3) 1 = b1 ∧
      wordByte (packWord b0 b1 b2 b3) 2 = b2 ∧ wordByte (packWord b0 b1 b2 b3) 3 = b3 :=
  ⟨BitVec.extractLsb'_append_eq_right,
    (BitVec.extractLsb'_append_eq_of_le (by decide)).trans BitVec.extractLsb'_append_eq_right,
    (BitVec.extractLsb'_append_eq_of_le (by decide)).trans
      ((BitVec.extractLsb'_append_eq_of_le (by decide)).trans BitVec.extractLsb'_append_eq_right),
    (BitVec.extractLsb'_append_eq_of_le (by decide)).trans ((BitVec.extractLsb'_append_eq_of_le (by decide)).trans
      ((BitVec.extractLsb'_append_eq_of_le (by decide)).trans BitVec.extractLsb'_eq_self))⟩

/-- A word write of a LOADTX list stores bytes `4w .. 4w+3` of it, 0x00 past its end (R87). -/
theorem byteAt_storeLoadTxWord (bs : List Byte) (s : State) (n a : Nat) :
    (State.storeWord (0x100 + 4 * n) (loadTxWord bs n) s).byteAt a =
      if 0x100 + 4 * n ≤ a ∧ a < 0x100 + 4 * n + 4 then bs.getD (a - 0x100) 0 else s.byteAt a := by
  obtain ⟨h0, h1, h2, h3⟩ := wordByte_packWord (bs.getD (4 * n) 0) (bs.getD (4 * n + 1) 0) (bs.getD (4 * n + 2) 0)
    (bs.getD (4 * n + 3) 0)
  rw [byteAt_storeWord, loadTxWord, h0, h1, h2, h3]
  by_cases hin : 0x100 + 4 * n ≤ a ∧ a < 0x100 + 4 * n + 4
  · obtain ⟨j, hj, rfl⟩ : ∃ j, j < 4 ∧ a = 0x100 + (4 * n + j) := ⟨a - (0x100 + 4 * n), by omega, by omega⟩
    rw [if_pos hin, Nat.add_sub_cancel_left]
    interval_cases j <;> simp [Nat.add_assoc]
  · rw [if_neg (by omega), if_neg (by omega), if_neg (by omega), if_neg (by omega), if_neg hin]

/-- The buffers after the first word writes of a LOADTX list. -/
def loadTxMem (bs : List Byte) (s : State) : Nat → Memory
  | 0 => s.mem
  | w + 1 => (State.storeWord (txBase + 4 * w) (loadTxWord bs w) { s with mem := loadTxMem bs s w }).mem

/-- After `n` word writes TXBUF begins with the list, filled up with 0x00, and no other buffer byte has changed. -/
theorem byteAt_loadTxMem (bs : List Byte) (s : State) (n a : Nat) :
    ({ s with mem := loadTxMem bs s n } : State).byteAt a =
      if 0x100 ≤ a ∧ a < 0x100 + 4 * n then bs.getD (a - 0x100) 0 else s.byteAt a := by
  induction n with
  | zero => rw [if_neg (by omega)]; rfl
  | succ n ih =>
    have hstore := byteAt_storeLoadTxWord bs { s with mem := loadTxMem bs s n } n a
    rw [ih] at hstore
    refine hstore.trans ?_
    by_cases hnew : 0x100 + 4 * n ≤ a ∧ a < 0x100 + 4 * n + 4
    · rw [if_pos hnew, if_pos (by omega)]
    · rw [if_neg hnew]
      exact if_congr (by omega) rfl rfl

/-- A TXBUF word write with BUSY = 0 is stored (R56, R60). -/
theorem step_of_txBufWrite {s : State} {ms : List Move} {w : Fin 64} {v : Word} (hbusy : s.busy = false)
    (h : s.moves = busW (txWordOffset w.val) v :: ms) :
    step s = .next (State.storeWord (txWordBase w) v { s with moves := ms, bus := { data := 0, err := false } }) := by
  rw [step_of_write (x := .txWord w) (by simp) h, writeTarget, whileIdle_of_idle]
  exact hbusy

/-- A TXLEN write with BUSY = 0 keeps the low byte (R30, R60). -/
theorem step_of_txlenWrite {s : State} {ms : List Move} {v : Word} (hbusy : s.busy = false)
    (h : s.moves = busW Reg.txlen.offset v :: ms) :
    step s = .next { s with moves := ms, bus := { data := 0, err := false }, txlen := v.extractLsb' 0 8 } := by
  rw [step_of_write (x := .reg .txlen) (by simp) h, writeTarget, writeReg, whileIdle_of_idle]
  exact hbusy

/-- The word writes of a LOADTX list run to `loadTxMem`. -/
theorem runSteps_loadTx {s : State} (bs : List Byte) (hbusy : s.busy = false) (n : Nat) (hn : n ≤ 64) (rest : List Move) :
    ∃ b, runSteps n { s with
        moves := (List.range n).map (fun w => busW (txWordOffset w) (loadTxWord bs w)) ++ rest } =
      .next { s with mem := loadTxMem bs s n, moves := rest, bus := b } := by
  induction n generalizing rest with
  | zero => exact ⟨s.bus, rfl⟩
  | succ n ih =>
    obtain ⟨b, hrun⟩ := ih (by omega) (busW (txWordOffset n) (loadTxWord bs n) :: rest)
    refine ⟨{ data := 0, err := false }, ?_⟩
    have hmoves : (List.range (n + 1)).map (fun w => busW (txWordOffset w) (loadTxWord bs w)) ++ rest =
        (List.range n).map (fun w => busW (txWordOffset w) (loadTxWord bs w)) ++
          busW (txWordOffset n) (loadTxWord bs n) :: rest := by simp [List.range_succ]
    rw [hmoves, runSteps_add n 1 hrun]
    exact runSteps_succ 0 (step_of_txBufWrite (w := ⟨n, by omega⟩) hbusy rfl)

/-- Settles O18: the word writes, then the write of TXLEN. -/
theorem loadTxFillsTheBuffer : Obligations.LoadTxFillsTheBuffer := by
  unfold Obligations.LoadTxFillsTheBuffer
  intro s bs hbusy hmoves hlen
  have hprogram : s.withProgram [.loadTx bs] = { s with
      moves := (List.range ((bs.length + 3) / 4)).map (fun w => busW (txWordOffset w) (loadTxWord bs w)) ++
        [busW Reg.txlen.offset (BitVec.ofNat 32 bs.length)] } := by
    simp [State.withProgram, HostOp.expand, hmoves]
  obtain ⟨b, hrun⟩ := runSteps_loadTx bs hbusy ((bs.length + 3) / 4) (by omega)
    [busW Reg.txlen.offset (BitVec.ofNat 32 bs.length)]
  have hlow : (BitVec.ofNat 32 bs.length).extractLsb' 0 8 = BitVec.ofNat 8 bs.length := by
    apply BitVec.eq_of_toNat_eq
    simp only [BitVec.extractLsb'_toNat, BitVec.toNat_ofNat, Nat.shiftRight_zero]
    omega
  have hbyte (a : Nat) := byteAt_loadTxMem bs s ((bs.length + 3) / 4) a
  refine ⟨{ s with
      mem := loadTxMem bs s ((bs.length + 3) / 4), txlen := BitVec.ofNat 8 bs.length, bus := { data := 0, err := false } },
    ?run, ?payload, fun j hj hlt => ?fill, fun a ha => (hbyte a).trans (if_neg (by omega)), rfl⟩
  case run =>
    rw [hprogram, runSteps_add _ 1 hrun, ← hlow]
    simp only [hmoves]
    exact runSteps_succ 0 (step_of_txlenWrite hbusy rfl)
  case payload =>
    have hlen8 : (BitVec.ofNat 8 bs.length).toNat = bs.length := by rw [BitVec.toNat_ofNat]; omega
    apply List.ext_getElem
    · rw [length_payload, hlen8]
    · intro j hj hj'
      simp only [State.payload, List.getElem_map, List.getElem_range]
      refine (hbyte (0x100 + j)).trans ?_
      rw [if_pos (by omega), Nat.add_sub_cancel_left, List.getD_eq_getElem _ _ hj']
  case fill =>
    refine (hbyte (0x100 + j)).trans ?_
    rw [if_pos (by omega), Nat.add_sub_cancel_left, List.getD_eq_default _ _ hj]

end Sys2Proof.Machine
end

section
/-! PROOFS. The working registers are never read before they are written (spec/10_state.md R41, R42). `State.live` blanks the
registers that the engine's state writes before it reads them; a step from a state and from its live part do the same. -/

namespace Sys2Proof.Machine

/-! ### The live part of a state -/

/-- The working registers of R41. -/
structure Work where
  txl  : List Byte
  k    : BitVec 10
  op   : Byte
  acc  : Half
  n    : Byte
  i    : BitVec 6
  hi   : BitVec 4
  ra   : Half
  rs   : Byte
  rt   : Byte
  rc   : Byte
  pend : Result

/-- The working registers at the values `State.visible` puts them to. -/
def Work.blank : Work :=
  { txl := [], k := 0, op := 0, acc := 0, n := 0, i := 0, hi := 0, ra := 0, rs := 0, rt := 0, rc := 0, pend := .none }

/-- The working registers of a state. -/
def State.work (s : State) : Work :=
  { txl := s.txl, k := s.k, op := s.op, acc := s.acc, n := s.n, i := s.i, hi := s.hi, ra := s.ra, rs := s.rs, rt := s.rt
    rc := s.rc, pend := s.pend }

/-- A state with its working registers replaced. -/
def State.withWork (s : State) (w : Work) : State :=
  { s with
    txl := w.txl, k := w.k, op := w.op, acc := w.acc, n := w.n, i := w.i, hi := w.hi, ra := w.ra, rs := w.rs, rt := w.rt
    rc := w.rc, pend := w.pend }

/-- `State.visible` blanks the working registers and nothing else. -/
theorem visible_eq_withWork (s : State) : s.visible = s.withWork .blank := rfl

/-- What RX_FINISH still reads: `pend`, and for OK the reply it publishes (R162). -/
def Work.liveAtFinish (w : Work) : Work :=
  match w.pend with
  | .ok => { Work.blank with pend := w.pend, ra := w.ra, rs := w.rs, rt := w.rt, n := w.n, rc := w.rc }
  | .none | .okAckOnly | .protocolViolation | .timeout | .unsupported | .invalidArgument | .ioFailure =>
    { Work.blank with pend := w.pend }

/-- The working registers an engine state still reads; those it writes before it reads them are blanked. -/
def Work.live (w : Work) : EngineState → Work
  | .idle | .rxWaitSyn | .rxSkipExtraSyns | .rxExpectSynAfterAck | .rxExpectEmptyOrFrame | .rxHdrSyn | .rxHdrSoh
  | .rxHdrAddrHi => .blank
  | .txASend | .txAckSend | .txBSend => { Work.blank with txl := w.txl, k := w.k, op := w.op }
  | .rxHdrAddrLo => { Work.blank with ra := hiByte w.ra ++ 0#8 }
  | .rxHdrSeq => { Work.blank with ra := w.ra }
  | .rxExpectDleStx | .rxExpectStx | .rxReadType => { Work.blank with ra := w.ra, rs := w.rs }
  | .rxReadLen => { Work.blank with ra := w.ra, rs := w.rs, rt := w.rt, acc := w.acc }
  | .rxReadData | .rxReadDataEsc | .rxExpectDleEtx | .rxExpectEtx | .rxReadCsumHi =>
    { Work.blank with ra := w.ra, rs := w.rs, rt := w.rt, acc := w.acc, n := w.n, i := w.i }
  | .rxReadCsumLo => { Work.blank with ra := w.ra, rs := w.rs, rt := w.rt, acc := w.acc, n := w.n, hi := w.hi }
  | .rxExpectTrailingSyn => { Work.blank with ra := w.ra, rs := w.rs, rt := w.rt, n := w.n, rc := w.rc }
  | .rxFinish => w.liveAtFinish

/-- A state with every working register blanked that it will not read. -/
def State.live (s : State) : State := s.withWork (s.work.live s.st)

/-- The live part of an outcome. -/
def liveOutcome : Host.Outcome State Fault Refusal → Host.Outcome State Fault Refusal
  | .next t => .next t.live
  | .fault r => .fault r
  | .refused r => .refused r

theorem liveOutcome_next {t t' : State} (h : t.live = t'.live) : liveOutcome (.next t) = liveOutcome (.next t') :=
  congrArg Host.Outcome.next h

theorem live_of_idle {s : State} (h : s.st = .idle) : s.live = s.visible := by
  rw [State.live, h, visible_eq_withWork]
  rfl

theorem hiByte_append (b c : Byte) : hiByte (b ++ c) = b :=
  BitVec.extractLsb'_append_eq_left

theorem Work.live_live (w : Work) (e : EngineState) : (w.live e).live e = w.live e := by
  cases e
  case rxHdrAddrLo => simp only [Work.live, hiByte_append]
  case rxFinish =>
    obtain ⟨_, _, _, _, _, _, _, _, _, _, _, pend⟩ := w
    cases pend <;> rfl
  all_goals rfl

@[simp] theorem live_live (s : State) : s.live.live = s.live :=
  congrArg s.withWork (s.work.live_live s.st)

/-- An update that leaves the working registers and the engine's state alone reads no working register. -/
theorem live_of_commutes {f : State → State} (h : ∀ s, (f s).live = f s.live) (s : State) :
    (f s).live = (f s.live).live := by
  rw [h, h s.live, live_live]

theorem eq_with_st {s : State} {e : EngineState} (h : s.st = e) : s = { s with st := e } := by
  rw [← h]

theorem eq_with_pend {s : State} {r : Result} (h : s.pend = r) : s = { s with pend := r } := by
  rw [← h]

/-! ### Receive steps -/

/-- The capture of a violation depends on what is visible alone (R142). -/
theorem viol_live (kind : Kind) (b computed : Byte) (s : State) :
    (viol kind b computed s).live = (viol kind b computed s.live).live := rfl

theorem expectByte_live (want : Byte) (e : EngineState) (b : Byte) (s : State)
    (h : ({ s with st := e } : State).live = ({ s.live with st := e } : State).live) :
    (expectByte want e b s).live = (expectByte want e b s.live).live := by
  unfold expectByte
  split
  · exact h
  · exact viol_live ..

theorem rxReadLen_live (b : Byte) (s : State) (hst : s.st = .rxReadLen) :
    (rxReadLen b s).live = (rxReadLen b s.live).live := by
  rw [eq_with_st hst]
  unfold rxReadLen
  split_ifs <;> rfl

theorem storeData_live (b : Byte) (s : State) (h : s.st.inData = true) :
    (storeData b s).live = (storeData b s.live).live := by
  have hlive : s.live = s.withWork { Work.blank with
      ra := s.ra, rs := s.rs, rt := s.rt, acc := s.acc, n := s.n, i := s.i } := by
    unfold State.live
    cases hst : s.st <;> simp [hst, EngineState.inData] at h <;> rfl
  rw [hlive]
  by_cases hend : (s.i + 1).toNat = s.n.toNat
  · simp only [storeData, State.withWork, hend, if_true]
    rfl
  · simp only [storeData, State.withWork, hend, if_false]
    rfl

theorem rxReadCsumLo_of_eq {s : State} {b : Byte} {v : BitVec 4} (hv : hexval b = some v)
    (h : csumOfDigits s.hi v = loByte s.acc) :
    rxReadCsumLo b s = { s with rc := csumOfDigits s.hi v, st := .rxExpectTrailingSyn } := by
  simp [rxReadCsumLo, hv, h]

theorem rxReadCsumLo_of_ne {s : State} {b : Byte} {v : BitVec 4} (hv : hexval b = some v)
    (h : csumOfDigits s.hi v ≠ loByte s.acc) :
    rxReadCsumLo b s =
      viol .csumMismatch (csumOfDigits s.hi v) (loByte s.acc) { s with rc := csumOfDigits s.hi v } := by
  simp [rxReadCsumLo, hv, h]

theorem rxReadCsumLo_live (b : Byte) (s : State) (hst : s.st = .rxReadCsumLo) :
    (rxReadCsumLo b s).live = (rxReadCsumLo b s.live).live := by
  have hlive : s.live = s.withWork { Work.blank with
      ra := s.ra, rs := s.rs, rt := s.rt, acc := s.acc, n := s.n, hi := s.hi } := by
    rw [State.live, hst]
    rfl
  cases hv : hexval b with
  | none =>
    simp only [rxReadCsumLo, hv]
    exact viol_live ..
  | some v =>
    rw [hlive]
    by_cases hsum : csumOfDigits s.hi v = loByte s.acc
    · rw [rxReadCsumLo_of_eq hv hsum, rxReadCsumLo_of_eq hv]
      · rfl
      · exact hsum
    · rw [rxReadCsumLo_of_ne hv hsum, rxReadCsumLo_of_ne hv]
      · rfl
      · exact hsum

/-- What a receiving state does with a byte reads live registers only. -/
theorem rxByte_live (b : Byte) (s : State) (h : s.st.receiving = true) :
    (rxByte b s).live = (rxByte b s.live).live := by
  cases hst : s.st <;> rw [eq_with_st hst]
  case idle | rxFinish | txASend | txAckSend | txBSend => simp [hst, EngineState.receiving] at h
  case rxWaitSyn | rxExpectSynAfterAck | rxHdrSyn | rxHdrSoh | rxExpectDleStx | rxExpectStx | rxExpectDleEtx
      | rxExpectEtx =>
    exact expectByte_live _ _ b _ rfl
  case rxSkipExtraSyns =>
    change (rxSkipExtraSyns b _).live = (rxSkipExtraSyns b _).live
    unfold rxSkipExtraSyns
    split_ifs <;> rfl
  case rxExpectEmptyOrFrame =>
    change (rxExpectEmptyOrFrame b _).live = (rxExpectEmptyOrFrame b _).live
    unfold rxExpectEmptyOrFrame
    split_ifs <;> rfl
  case rxHdrAddrHi =>
    simp only [rxByte, rxHdrAddrHi, State.live, State.withWork, State.work, Work.live, hiByte_append]
  case rxHdrAddrLo =>
    simp only [rxByte, rxHdrAddrLo, State.live, State.withWork, State.work, Work.live, hiByte_append]
  case rxHdrSeq | rxReadType => rfl
  case rxReadLen => exact rxReadLen_live b _ rfl
  case rxReadData =>
    change (rxReadData b _).live = (rxReadData b _).live
    unfold rxReadData
    split
    · rfl
    · exact storeData_live b _ rfl
  case rxReadDataEsc => exact storeData_live b _ rfl
  case rxReadCsumHi =>
    change (rxReadCsumHi b _).live = (rxReadCsumHi b _).live
    unfold rxReadCsumHi
    split <;> rfl
  case rxReadCsumLo => exact rxReadCsumLo_live b _ rfl
  case rxExpectTrailingSyn =>
    change (rxExpectTrailingSyn b _).live = (rxExpectTrailingSyn b _).live
    unfold rxExpectTrailingSyn
    split_ifs <;> rfl

theorem recv_live (s : State) : s.live.recv = (s.recv.1, s.recv.2.live) := by
  cases hheld : s.line.held with
  | cons b bs => rw [recv_of_held hheld, recv_of_held (s := s.live) hheld]; rfl
  | nil =>
    cases hans : s.line.recvAnswers with
    | cons r rs => rw [recv_of_answer hheld hans, recv_of_answer (s := s.live) hheld hans]; rfl
    | nil =>
      have hdraw (u : State) (h : u.line.held = []) (h' : u.line.recvAnswers = []) :
          u.recv = (Config.recvDraw u.draws, { u with draws := u.draws + 1 }) := by simp [State.recv, h, h']
      rw [hdraw s hheld hans, hdraw s.live hheld hans]
      rfl

theorem rxStep_live {s : State} (h : s.st.receiving = true) : (rxStep s).live = (rxStep s.live).live := by
  obtain ⟨hs, as, d, hu⟩ := recv_spec s
  have hst : s.recv.2.st.receiving = true := by rw [hu]; exact h
  have hrecv : s.recv = (s.recv.1, s.recv.2) := rfl
  have hlive := recv_live s
  cases hr : s.recv.1 with
  | rbyte b =>
    rw [hr] at hrecv hlive
    rw [rxStep_of_byte hrecv, rxStep_of_byte hlive]
    exact rxByte_live b _ hst
  | rtimeout =>
    rw [hr] at hrecv hlive
    rw [rxStep_of_timeout hrecv, rxStep_of_timeout hlive]
    rfl
  | rioerr =>
    rw [hr] at hrecv hlive
    rw [rxStep_of_ioerr hrecv, rxStep_of_ioerr hlive]
    rfl

theorem rxFinishStep_live {s : State} (h : s.st = .rxFinish) : (rxFinishStep s).live = (rxFinishStep s.live).live := by
  rw [eq_with_st h]
  cases hp : s.pend <;> rw [eq_with_pend hp] <;> rfl

/-! ### Transmit steps -/

theorem send_live (b : Byte) (s : State) : s.live.send b = ((s.send b).1, (s.send b).2.live) := by
  cases hans : s.line.sendAnswers with
  | cons r rs => rw [send_of_answer b hans, send_of_answer (s := s.live) b hans]; rfl
  | nil =>
    have hdraw (u : State) (h : u.line.sendAnswers = []) : u.send b = (Config.sendDraw u.draws, { u with
        draws := u.draws + 1
        line := { u.line with
          sent := if Config.sendDraw u.draws = .wok then u.line.sent ++ [b] else u.line.sent } }) := by
      simp [State.send, h]
    rw [hdraw s hans, hdraw s.live hans]
    rfl

theorem live_of_sending {s : State} (h : s.st.sending = true) :
    s.live = s.withWork { Work.blank with txl := s.txl, k := s.k, op := s.op } := by
  unfold State.live
  cases hst : s.st <;> simp [hst, EngineState.sending] at h <;> rfl

theorem txVerdict_live (b : Byte) (r : SendResult) {s : State} (h : s.st.sending = true) :
    (txVerdict b r s).live = (txVerdict b r s.live).live := by
  rw [live_of_sending h]
  cases r with
  | wtimeout | wioerr => rfl
  | wok =>
    have hlive := live_of_sending (s := { s with k := s.k + 1 }) h
    by_cases hlast : (s.k + 1).toNat = s.txl.length
    · simp only [txVerdict, State.withWork, hlast, if_true, txDone_eq]
      rfl
    · simp only [txVerdict, State.withWork, hlast, if_false]
      rw [hlive, live_of_sending (by exact h)]
      rfl

theorem txStep_live {s : State} (h : s.st.sending = true) : liveOutcome (txStep s) = liveOutcome (txStep s.live) := by
  have hbyte : s.live.txl[s.live.k.toNat]? = s.txl[s.k.toNat]? := by rw [live_of_sending h]; rfl
  cases hb : s.txl[s.k.toNat]? with
  | none => rw [txStep_of_none hb, txStep_of_none (hbyte.trans hb)]
  | some b =>
    obtain ⟨as, d, hu⟩ := send_spec b s
    have hsend : (s.send b).2.st.sending = true := by rw [hu]; exact h
    rw [txStep_of_byte hb, txStep_of_byte (hbyte.trans hb), send_live]
    exact liveOutcome_next (txVerdict_live b _ hsend)

/-! ### Every step -/

/-- A step function that does the same, as far as the live part of the outcome shows, from a state and from its live part. -/
def ReadsOnlyLive (f : State → Host.Outcome State Fault Refusal) : Prop :=
  ∀ s, liveOutcome (f s) = liveOutcome (f s.live)

theorem engineStep_live : ReadsOnlyLive engineStep := by
  intro s
  obtain hst | hst | hst | hst := engineState_cases s.st
  · rw [engineStep_of_idle hst, engineStep_of_idle (s := s.live) hst]
    exact liveOutcome_next (live_live s).symm
  · rw [engineStep_of_sending hst, engineStep_of_sending (s := s.live) hst]
    exact txStep_live hst
  · rw [engineStep_of_receiving hst, engineStep_of_receiving (s := s.live) hst]
    exact liveOutcome_next (rxStep_live hst)
  · rw [engineStep_of_finish hst, engineStep_of_finish (s := s.live) hst]
    exact liveOutcome_next (rxFinishStep_live hst)

theorem whileIdle_live {f : State → State} (hf : ∀ s, (f s).live = (f s.live).live) (s : State) :
    (whileIdle f s).live = (whileIdle f s.live).live := by
  cases hbusy : s.busy with
  | true =>
    rw [whileIdle_of_busy hbusy, whileIdle_of_busy (s := s.live) hbusy]
    exact live_of_commutes (f := fun s => { s with wbusy := true }) (fun _ => rfl) s
  | false =>
    rw [whileIdle_of_idle hbusy, whileIdle_of_idle (s := s.live) hbusy]
    exact hf s

theorem finish_live (r : Result) (s : State) : (finish r s).live = (finish r s.live).live := rfl

theorem acceptTxA_live (s : State) : (acceptTxA s).live = (acceptTxA s.live).live := by
  have hlen : s.live.txlen = s.txlen := rfl
  have hproto : s.live.proto = s.proto := rfl
  simp only [acceptTxA, hlen, hproto]
  split_ifs <;> rfl

theorem acceptTxB_live (s : State) : (acceptTxB s).live = (acceptTxB s.live).live := by
  have hmfl : s.live.mflTxB = s.mflTxB := rfl
  have hproto : s.live.proto = s.proto := rfl
  simp only [acceptTxB, hmfl, hproto]
  split_ifs <;> rfl

theorem acceptAckA_live (s : State) : (acceptAckA s).live = (acceptAckA s.live).live := by
  have hproto : s.live.proto = s.proto := rfl
  simp only [acceptAckA, hproto]
  split_ifs <;> rfl

theorem acceptRxA_live (s : State) : (acceptRxA s).live = (acceptRxA s.live).live := by
  have hnr : s.live.nr = s.nr := rfl
  have hproto : s.live.proto = s.proto := rfl
  simp only [acceptRxA, hnr, hproto]
  split_ifs <;> rfl

theorem issue_live (v : Word) : ReadsOnlyLive (issue v) := by
  intro s
  cases hd : decode v with
  | error e =>
    rw [issue_of_error s hd, issue_of_error s.live hd]
    exact liveOutcome_next (whileIdle_live (finish_live .unsupported) s)
  | ok i =>
    rw [issue_of_ok s hd, issue_of_ok s.live hd]
    cases i with
    | txA => exact liveOutcome_next (whileIdle_live acceptTxA_live s)
    | rxA => exact liveOutcome_next (whileIdle_live acceptRxA_live s)
    | ackA => exact liveOutcome_next (whileIdle_live acceptAckA_live s)
    | seqReset => exact liveOutcome_next (whileIdle_live (fun _ => rfl) s)
    | txB => exact liveOutcome_next (whileIdle_live acceptTxB_live s)
    | rxB => exact liveOutcome_next (whileIdle_live (finish_live .unsupported) s)

theorem writeTarget_live (v : Word) (x : Target) (s : State) :
    (writeTarget v x s).live = (writeTarget v x s.live).live := by
  match x with
  | .reg .cmd | .reg .seq | .reg .txchk | .reg .rxhdr | .reg .rxinfo | .reg .errinfo | .rxWord _ =>
    exact (live_live s).symm
  | .reg .status => exact live_of_commutes (f := writeStatus v) (fun _ => rfl) s
  | .reg .cfg | .reg .addr | .reg .txctl | .reg .txlen | .txWord _ =>
    simp only [writeTarget, writeReg]
    refine whileIdle_live (live_of_commutes ?_) s
    exact fun _ => rfl

theorem memRead_live (s : State) (a : Offset) (w : Width) : memRead s.live a w = memRead s a w := by
  cases hx : accessTarget a w with
  | none => rw [memRead_of_none s hx, memRead_of_none s.live hx]
  | some x =>
    rw [memRead_of_target s hx, memRead_of_target s.live hx]
    match x with
    | .reg r => cases r <;> rfl
    | .txWord _ | .rxWord _ => rfl

theorem answer_live (b : BusAnswer) (s : State) : (s.answer b).live = s.live.answer b := rfl

theorem hostAccess_live (x : Access) : ReadsOnlyLive (hostAccess x) := by
  intro s
  match x with
  | .read a w =>
    simp only [hostAccess, hostRead, memRead_live]
    exact liveOutcome_next (live_of_commutes (answer_live _) s)
  | .write a w v =>
    simp only [hostAccess]
    cases hx : accessTarget a w with
    | none =>
      rw [hostWrite_of_none v s hx, hostWrite_of_none v s.live hx]
      exact liveOutcome_next (live_of_commutes (answer_live _) s)
    | some x =>
      by_cases hcmd : x = .reg .cmd
      · subst hcmd
        rw [hostWrite_of_cmd v s hx, hostWrite_of_cmd v s.live hx, issue_live, answer_live]
      · rw [hostWrite_of_target v s hx hcmd, hostWrite_of_target v s.live hx hcmd]
        exact liveOutcome_next (writeTarget_live v x (s.answer (writeAnswer false)))

theorem poll_live (s : State) : (poll s).live = poll s.live := by
  rw [poll_eq, poll_eq]
  rfl

theorem step_live : ReadsOnlyLive step := by
  intro s
  have hmoves (ms : List Move) : ({ s with moves := ms } : State).live = { s.live with moves := ms } := rfl
  obtain ⟨hm, he⟩ | ⟨ms, hm, he⟩ | ⟨x, ms, hm, he⟩ | ⟨ms, hm, he⟩ | ⟨b, ms, hm, he⟩ | ⟨ms, hm, he⟩ := step_cases s
    <;> rw [he]
  · rw [step_of_nil (s := s.live) hm]
    exact engineStep_live s
  · rw [step_of_engine (s := s.live) hm, engineStep_live, hmoves]
  · rw [step_of_host (s := s.live) hm, hostAccess_live, hmoves]
  · rw [step_of_poll (s := s.live) hm]
    exact liveOutcome_next (live_of_commutes poll_live { s with moves := ms })
  · rw [step_of_arrive (s := s.live) hm]
    exact liveOutcome_next (live_of_commutes (f := State.arrive b) (fun _ => rfl) { s with moves := ms })
  · rw [step_of_reset (s := s.live) hm]
    rfl

/-! ### Every run -/

theorem runSteps_of_fault {s : State} {r : Fault} (m : Nat) (h : step s = .fault r) :
    runSteps (m + 1) s = .fault r := by
  simp only [runSteps, Host.Core.run, show Sys2Proof.core.step s = .fault r from h]
  rfl

theorem runSteps_of_refused {s : State} {r : Refusal} (m : Nat) (h : step s = .refused r) :
    runSteps (m + 1) s = .refused r := by
  simp only [runSteps, Host.Core.run, show Sys2Proof.core.step s = .refused r from h]
  rfl

/-- Runs from states with the same live part stop alike, in states with the same live part. -/
theorem runSteps_live (m : Nat) {s s' : State} (h : s.live = s'.live) :
    liveOutcome (runSteps m s) = liveOutcome (runSteps m s') := by
  induction m generalizing s s' with
  | zero => exact liveOutcome_next h
  | succ m ih =>
    have hstep : liveOutcome (step s) = liveOutcome (step s') := by rw [step_live s, h, ← step_live s']
    match ht : step s, ht' : step s' with
    | .next t, .next t' =>
      rw [ht, ht'] at hstep
      rw [runSteps_succ m ht, runSteps_succ m ht']
      exact ih (Host.Outcome.next.inj hstep)
    | .fault r, .fault r' =>
      rw [runSteps_of_fault m ht, runSteps_of_fault m ht']
    | .refused r, .refused r' =>
      rw [ht, ht'] at hstep
      rw [runSteps_of_refused m ht, runSteps_of_refused m ht']
      exact hstep
    | .next _, .fault _ | .next _, .refused _ | .fault _, .next _ | .fault _, .refused _ | .refused _, .next _
    | .refused _, .fault _ => simp [ht, ht', liveOutcome] at hstep

theorem visibleOutcome_liveOutcome (o : Host.Outcome State Fault Refusal) :
    visibleOutcome (liveOutcome o) = visibleOutcome o := by
  cases o <;> rfl

/-- Settles O52: in IDLE no working register is live, so the two states have the same live part, and every run keeps that. -/
theorem workingRegistersNeverReadFirst : Obligations.WorkingRegistersNeverReadFirst := by
  unfold Obligations.WorkingRegistersNeverReadFirst
  intro m s s' hst hvisible
  have hst' : s'.st = .idle := (congrArg State.st hvisible).symm.trans hst
  have hlive : s.live = s'.live := by rw [live_of_idle hst, live_of_idle hst', hvisible]
  rw [← visibleOutcome_liveOutcome, runSteps_live m hlive, visibleOutcome_liveOutcome]

end Sys2Proof.Machine
end

section
/-! PROOFS. The host window (spec/20_memory.md R51 to R56): which offsets are mapped, what a bus error does, and the buffer
words' byte order. -/

namespace Sys2Proof

/-! ### The window map -/

/-- The offset of a target is aligned and in a mapped row of R51. -/
theorem Target.offset_mapped (x : Target) : x.offset.toNat % 4 = 0 ∧
    (x.offset.toNat ≤ 0x02B ∨ (0x100 ≤ x.offset.toNat ∧ x.offset.toNat ≤ 0x2FF)) := by
  match x with
  | .reg r => cases r <;> decide
  | .txWord w => simp only [Target.offset, txWordOffset_toNat]; omega
  | .rxWord w => simp only [Target.offset, rxWordOffset_toNat]; omega

/-- The registers stand at the first eleven words of the window, without a hole (R51). -/
theorem exists_reg_offset (i : Fin 11) : ∃ r ∈ Reg.all, r.offset.toNat = 4 * i.val := by
  revert i
  decide

/-- Every aligned offset of a mapped row of R51 is some target's own. -/
theorem Target.exists_offset {a : Offset} (haligned : a.toNat % 4 = 0)
    (hrow : a.toNat ≤ 0x02B ∨ (0x100 ≤ a.toNat ∧ a.toNat ≤ 0x2FF)) : ∃ x : Target, a = x.offset := by
  obtain hreg | htx | hrx : a.toNat < 0x02C ∨ (0x100 ≤ a.toNat ∧ a.toNat < 0x200) ∨
      (0x200 ≤ a.toNat ∧ a.toNat < 0x300) := by omega
  · obtain ⟨i, hi⟩ : ∃ i : Fin 11, a.toNat = 4 * i.val := ⟨⟨a.toNat / 4, by omega⟩, by dsimp only; omega⟩
    obtain ⟨r, -, hr⟩ := exists_reg_offset i
    exact ⟨.reg r, BitVec.eq_of_toNat_eq (hi.trans hr.symm)⟩
  · obtain ⟨w, hw⟩ : ∃ w : Fin 64, a.toNat = 0x100 + 4 * w.val :=
      ⟨⟨(a.toNat - 0x100) / 4, by omega⟩, by dsimp only; omega⟩
    exact ⟨.txWord w, BitVec.eq_of_toNat_eq (hw.trans (txWordOffset_toNat w).symm)⟩
  · obtain ⟨w, hw⟩ : ∃ w : Fin 64, a.toNat = 0x200 + 4 * w.val :=
      ⟨⟨(a.toNat - 0x200) / 4, by omega⟩, by dsimp only; omega⟩
    exact ⟨.rxWord w, BitVec.eq_of_toNat_eq (hw.trans (rxWordOffset_toNat w).symm)⟩

/-- An offset names something exactly when it is aligned and in a mapped row (R51, R52, R53). -/
theorem Target.ofOffset_ne_none_iff (a : Offset) : Target.ofOffset a ≠ none ↔
    a.toNat % 4 = 0 ∧ (a.toNat ≤ 0x02B ∨ (0x100 ≤ a.toNat ∧ a.toNat ≤ 0x2FF)) := by
  constructor
  · intro h
    obtain ⟨x, hx⟩ := Option.ne_none_iff_exists'.mp h
    rw [Target.eq_offset_of_ofOffset hx]
    exact x.offset_mapped
  · rintro ⟨haligned, hrow⟩
    obtain ⟨x, rfl⟩ := Target.exists_offset haligned hrow
    simp [Machine.ofOffset_offset]

end Sys2Proof

namespace Sys2Proof.Machine

/-- Settles O10: a named offset is its target's own, so the map has an inverse on the mapped rows. -/
theorem windowMapIsExact : Obligations.WindowMapIsExact := by
  unfold Obligations.WindowMapIsExact
  refine ⟨Target.ofOffset_reg, Target.ofOffset_txWord, Target.ofOffset_rxWord, fun a b heq hne => ?_,
    Target.ofOffset_ne_none_iff⟩
  obtain ⟨x, hx⟩ := Option.ne_none_iff_exists'.mp hne
  exact (Target.eq_offset_of_ofOffset hx).trans (Target.eq_offset_of_ofOffset (heq ▸ hx)).symm

/-! ### Bus errors -/

/-- A narrow, misaligned or unmapped access reaches nothing (R52, R53). -/
theorem accessTarget_eq_none {a : Offset} {w : Width}
    (h : w ≠ .w32 ∨ a.toNat % 4 ≠ 0 ∨ (0x02B < a.toNat ∧ a.toNat < 0x100) ∨ 0x2FF < a.toNat) :
    accessTarget a w = none := by
  cases w with
  | w8 | w16 => rfl
  | w32 =>
    rw [accessTarget_w32]
    by_contra hmapped
    have hrow := (Target.ofOffset_ne_none_iff a).mp hmapped
    have hout := h.resolve_left (not_not.mpr rfl)
    omega

/-- Settles O11: the access reaches no target, so all it does is answer. -/
theorem busErrorChangesNothing : Obligations.BusErrorChangesNothing := by
  unfold Obligations.BusErrorChangesNothing
  intro s ms a w h
  have hnone := accessTarget_eq_none h
  refine ⟨fun hm => ?read, fun v hm => ?write⟩
  case read =>
    rw [step_of_host hm, hostAccess, hostRead, memRead_of_none _ hnone]
    rfl
  case write =>
    rw [step_of_host hm]
    exact hostWrite_of_none v _ hnone

/-! ### Buffer words -/

/-- A word is packed from its own four bytes (R56). -/
theorem packWord_wordByte (v : Word) :
    packWord (wordByte v 0) (wordByte v 1) (wordByte v 2) (wordByte v 3) = v := by
  simp only [packWord, wordByte]
  rw [BitVec.extractLsb'_append_extractLsb'_eq_extractLsb' (by decide),
    BitVec.extractLsb'_append_extractLsb'_eq_extractLsb' (by decide),
    BitVec.extractLsb'_append_extractLsb'_eq_extractLsb' (by decide)]
  exact BitVec.extractLsb'_eq_self

/-- Byte `j` of a packed word has the weight `2 ^ (8 * j)` (R56). -/
theorem packWord_eq_or (b0 b1 b2 b3 : Byte) : packWord b0 b1 b2 b3 =
    b0.setWidth 32 ||| b1.setWidth 32 <<< 8 ||| b2.setWidth 32 <<< 16 ||| b3.setWidth 32 <<< 24 := by
  have hpack : packWord b0 b1 b2 b3 =
      b3.setWidth 32 <<< 24 ||| b2.setWidth 32 <<< 16 ||| b1.setWidth 32 <<< 8 ||| b0.setWidth 32 :=
    (BitVec.setWidth_eq _).symm.trans BitVec.setWidth_append_append_append_eq_shiftLeft_setWidth_or
  have hreverse (x3 x2 x1 x0 : Word) : x3 ||| x2 ||| x1 ||| x0 = x0 ||| x1 ||| x2 ||| x3 := by ac_rfl
  exact hpack.trans (hreverse ..)

/-- A stored word leaves its byte `j` at offset `j` from its base (R56). -/
theorem byteAt_storeWord_add (a : Nat) (v : Word) (s : State) {j : Nat} (hj : j < 4) :
    (State.storeWord a v s).byteAt (a + j) = wordByte v j := by
  rw [byteAt_storeWord]
  interval_cases j <;> simp

/-- A stored word reads back from where it was stored (R56). -/
theorem wordAt_storeWord (a : Nat) (v : Word) (s : State) : (State.storeWord a v s).wordAt a = v := by
  have hbyte {j : Nat} (hj : j < 4) := byteAt_storeWord_add a v s hj
  rw [State.wordAt, hbyte (j := 1) (by omega), hbyte (j := 2) (by omega), hbyte (j := 3) (by omega)]
  exact (congrArg (packWord · _ _ _) (hbyte (j := 0) (by omega))).trans (packWord_wordByte v)

/-- A stored word leaves every byte outside its own four. -/
theorem byteAt_storeWord_of_outside {a x : Nat} (v : Word) (s : State) (h : x < a ∨ a + 4 ≤ x) :
    (State.storeWord a v s).byteAt x = s.byteAt x := by
  rw [byteAt_storeWord, if_neg (by omega), if_neg (by omega), if_neg (by omega), if_neg (by omega)]

/-- Settles O17: the accepted write is one `storeWord`; a buffer word is its four bytes packed. -/
theorem bufferWordsAreLittleEndian : Obligations.BufferWordsAreLittleEndian := by
  unfold Obligations.BufferWordsAreLittleEndian
  refine ⟨fun s ms w v hm hbusy => ?write, fun s w => ⟨packWord_eq_or .., packWord_eq_or ..⟩⟩
  case write =>
    have hbyte {j : Nat} (hj : j < 4) :=
      byteAt_storeWord_add (txWordBase w) v { s with moves := ms, bus := { data := 0, err := false } } hj
    exact ⟨_, step_of_txBufWrite hbusy hm, hbyte (j := 0) (by omega), hbyte (j := 1) (by omega),
      hbyte (j := 2) (by omega), hbyte (j := 3) (by omega), wordAt_storeWord _ v _,
      fun a ha => byteAt_storeWord_of_outside v _ ha, rfl⟩

end Sys2Proof.Machine
end

section
/-! PROOFS. The wire (spec/20_memory.md R58, R63): what a step may add to it, and that a frame in flight is fixed. -/

namespace Sys2Proof.Machine

/-! ### What leaves the transport alone -/

theorem whileIdle_line {f : State → State} (hf : ∀ s, (f s).line = s.line) (s : State) :
    (whileIdle f s).line = s.line := by
  obtain ⟨-, h⟩ | ⟨-, h⟩ := whileIdle_cases f s <;> rw [h]
  exact hf s

theorem writeTarget_line (v : Word) (x : Target) (s : State) : (writeTarget v x s).line = s.line := by
  match x with
  | .reg .cfg | .reg .addr | .reg .txctl | .reg .txlen | .txWord _ =>
    refine whileIdle_line ?_ s
    exact fun _ => rfl
  | .reg .cmd | .reg .status | .reg .seq | .reg .txchk | .reg .rxhdr | .reg .rxinfo | .reg .errinfo | .rxWord _ => rfl

/-- No host access uses the transport, the acceptance of a command included (R80). -/
theorem hostAccess_line {x : Access} {s t : State} (h : hostAccess x s = .next t) : t.line = s.line := by
  match x with
  | .read a w => cases h; rfl
  | .write a w v =>
    change hostWrite a w v s = .next t at h
    obtain ⟨-, he⟩ | ⟨-, he⟩ | ⟨x, -, -, he⟩ := hostWrite_cases a w v s <;> rw [he] at h
    · cases h; rfl
    · obtain ⟨-, hi⟩ | ⟨-, u, hi, hacc⟩ := issue_cases v (s.answer (writeAnswer false)) <;> rw [hi] at h <;> cases h
      · rfl
      · exact (congrArg State.line hacc.frame :)
    · cases h
      exact writeTarget_line v x _

/-- A receive step uses the transport for its `Recv` alone (R141). -/
theorem rxStep_line {s : State} (h : s.st.receiving = true) : (rxStep s).line = s.recv.2.line := by
  obtain ⟨hs, as, d, hu⟩ := recv_spec s
  have hst : s.recv.2.st.receiving = true := by rw [hu]; exact h
  cases hr : s.recv with
  | mk r u =>
    rw [hr] at hst
    cases r with
    | rbyte b =>
      rw [rxStep_of_byte hr]
      exact (congrArg State.line (rxByte_cases b hst).frame :)
    | rtimeout => rw [rxStep_of_timeout hr]; rfl
    | rioerr => rw [rxStep_of_ioerr hr]; rfl

theorem rxStep_sent {s : State} (h : s.st.receiving = true) : (rxStep s).line.sent = s.line.sent := by
  obtain ⟨hs, as, d, hu⟩ := recv_spec s
  rw [rxStep_line h, hu]

theorem FinishStep.sent {s t : State} (h : FinishStep s t) : t.line.sent = s.line.sent := by
  cases h <;> rfl

/-! ### What a transmit step adds to the wire -/

theorem txVerdict_wok (b : Byte) (s : State) : txVerdict b .wok s =
    if (s.k + 1).toNat = s.txl.length then txDone { s with k := s.k + 1 } else { s with k := s.k + 1 } := rfl

/-- After a WOK the index moves on (R114). -/
theorem txVerdict_wok_k (b : Byte) (s : State) : (txVerdict b .wok s).k = s.k + 1 := by
  rw [txVerdict_wok, txDone_eq]
  split <;> rfl

/-- An engine step that changes the wire has sent the one byte `txl[k]` (R58, R114). -/
theorem engineStep_sent {s t : State} (h : engineStep s = .next t) (hne : t.line.sent ≠ s.line.sent) :
    ∃ b, s.st.sending = true ∧ s.txl[s.k.toNat]? = some b ∧ t.line.sent = s.line.sent ++ [b] ∧ t.k = s.k + 1 := by
  obtain hst | hst | hst | hst := engineState_cases s.st
  case inr.inl =>
    rw [engineStep_of_sending hst] at h
    cases hb : s.txl[s.k.toNat]? with
    | none => rw [txStep_of_none hb] at h; cases h
    | some b =>
      rw [txStep_of_byte hb] at h
      cases h
      obtain ⟨as, d, hu⟩ := send_spec b s
      have hline : (txVerdict b (s.send b).1 (s.send b).2).line = (s.send b).2.line :=
        (congrArg State.line (txVerdict_cases b _ _).frame :)
      rw [hline, hu] at hne ⊢
      by_cases hr : (s.send b).1 = .wok
      · refine ⟨b, hst, rfl, if_pos hr, ?_⟩
        rw [hr, txVerdict_wok_k]
      · exact absurd (if_neg hr) hne
  · rw [engineStep_of_idle hst] at h
    cases h
    exact absurd rfl hne
  · rw [engineStep_of_receiving hst] at h
    cases h
    exact absurd (rxStep_sent hst) hne
  · rw [engineStep_of_finish hst] at h
    cases h
    exact absurd ((rxFinishStep_cases s).sent) hne

/-- Settles O39: of all moves only the engine's reaches the wire, by a transmit step. -/
theorem wireCarriesTheFrameInOrder : Obligations.WireCarriesTheFrameInOrder := by
  unfold Obligations.WireCarriesTheFrameInOrder
  intro s t h hne
  obtain ⟨hm, he⟩ | ⟨ms, hm, he⟩ | ⟨x, ms, hm, he⟩ | ⟨ms, hm, he⟩ | ⟨b, ms, hm, he⟩ | ⟨ms, hm, he⟩ := step_cases s
    <;> rw [he] at h
  · obtain ⟨b, hst, hb, hsent, hk⟩ := engineStep_sent h hne
    exact ⟨b, hst, .inl hm, hb, hsent, hk⟩
  · obtain ⟨b, hst, hb, hsent, hk⟩ := engineStep_sent h hne
    exact ⟨b, hst, .inr ⟨ms, hm⟩, hb, hsent, hk⟩
  · exact absurd (congrArg Line.sent (hostAccess_line h)) hne
  · cases h
    rw [poll_eq] at hne
    exact absurd rfl hne
  · cases h
    exact absurd rfl hne
  · cases h
    exact absurd rfl hne

/-! ### The frame in flight -/

/-- Settles O40: BUSY = 1 blocks the host's writes, and a transmit step writes none of these fields. -/
theorem frameInFlightIsFixed : Obligations.FrameInFlightIsFixed := by
  unfold Obligations.FrameInFlightIsFixed
  intro s t hbusy hst hstep hreset
  cases blockStep_of_step hstep with
  | reset ms hm => exact absurd hm (hreset ms)
  | send ms l d t hmove _ h =>
    rw [h.frame]
    exact ⟨rfl, rfl, rfl, rfl, rfl, rfl, fun _ _ => rfl⟩
  | receive ms l d t hmove hreceiving h =>
    obtain ⟨-, -, hnotSending, -⟩ := EngineState.of_receiving hreceiving
    exact absurd (hst.symm.trans hnotSending) (by simp)
  | finish ms t hmove hfinish h =>
    obtain ⟨-, -, -, hnotFinish, -⟩ := EngineState.of_sending hst
    exact absurd hfinish hnotFinish
  | quiet | dropped | status => exact ⟨rfl, rfl, rfl, rfl, rfl, rfl, fun _ _ => rfl⟩
  | command | cfg | addr | txctl | txlen | txBuf =>
    exact absurd (hbusy.symm.trans ‹s.busy = false›) (by simp)

end Sys2Proof.Machine
end

section
/-! PROOFS. A transmit command's run (spec/40_protocol_a_tx.md R114; spec/70_reset_and_hazards.md R253): one byte a step while
every `Send` answers WOK, and the whole frames of TX_A (R107) and TX_B (R190). -/

namespace Sys2Proof.Machine

/-! ### The bytes sent so far -/

/-- The state after the bytes `bs` were sent, before the frame's end; `answers` are the answers still to come. -/
def State.afterSends (bs : List Byte) (answers : List SendResult) (s : State) : State :=
  { s with
    k := s.k + BitVec.ofNat 10 bs.length
    line := { s.line with sent := s.line.sent ++ bs, sendAnswers := answers } }

theorem afterSends_append (bs bs' : List Byte) (answers answers' : List SendResult) (s : State) :
    (s.afterSends bs answers).afterSends bs' answers' = s.afterSends (bs ++ bs') answers' := by
  simp only [State.afterSends, List.append_assoc, List.length_append, BitVec.add_assoc, BitVec.ofNat_add]

/-- One step of a transmit state whose `Send` is answered by `r` (R114). -/
theorem step_of_sendAnswer {s : State} {b : Byte} {r : SendResult} {answers : List SendResult}
    (hst : s.st.sending = true) (hm : s.moves = []) (hb : s.txl[s.k.toNat]? = some b)
    (hans : s.line.sendAnswers = r :: answers) :
    step s = .next (txVerdict b r { s with line := { s.line with
      sendAnswers := answers, sent := if r = .wok then s.line.sent ++ [b] else s.line.sent } }) := by
  rw [step_of_nil hm, engineStep_of_sending hst, txStep_of_byte hb, send_of_answer b hans]

section Sending

/-! A transmit state to which `bs` and then `rest` are left to send. The frame is short enough for `k` to count (R41). -/

variable {s : State} {b : Byte} {bs rest : List Byte} {answers : List SendResult}
  (hst : s.st.sending = true) (hm : s.moves = []) (hlen : s.txl.length ≤ maxFrameLen)

include hlen in
/-- Sending the next byte moves the index on by one, without a wrap. -/
theorem left_afterSends (hleft : s.txl.drop s.k.toNat = b :: rest) :
    (s.k + 1).toNat + rest.length = s.txl.length ∧ s.txl.drop (s.k + 1).toNat = rest := by
  have hcount := congrArg List.length hleft
  simp only [List.length_drop, List.length_cons] at hcount
  have hk : (s.k + 1).toNat = s.k.toNat + 1 := by
    rw [maxFrameLen] at hlen
    exact BitVec.toNat_add_of_lt (y := 1) (show s.k.toNat + 1 < 1024 by omega)
  rw [hk, ← List.tail_drop, hleft]
  exact ⟨by omega, rfl⟩

include hst hm hlen

/-- A step that is answered WOK sends its byte; after the last byte the command ends. -/
theorem step_of_wok (hleft : s.txl.drop s.k.toNat = b :: rest) (hans : s.line.sendAnswers = .wok :: answers) :
    step s = .next (if rest = [] then txDone (s.afterSends [b] answers) else s.afterSends [b] answers) := by
  have hend : (s.k + 1).toNat = s.txl.length ↔ rest = [] := by
    rw [← List.length_eq_zero_iff]
    have hcount := (left_afterSends hlen hleft).1
    omega
  have hb : s.txl[s.k.toNat]? = some b := by rw [← List.head?_drop, hleft, List.head?_cons]
  rw [step_of_sendAnswer hst hm hb hans, txVerdict_wok]
  exact congrArg _ (if_congr hend rfl rfl)

/-- A run that is answered WOK sends one byte a step, and ends the command with the frame's last byte (R58, R253). -/
theorem runSteps_of_wok (hk : s.k.toNat < s.txl.length) (hleft : s.txl.drop s.k.toNat = bs ++ rest)
    (hans : s.line.sendAnswers = List.replicate bs.length .wok ++ answers) :
    runSteps bs.length s =
      .next (if rest = [] then txDone (s.afterSends bs answers) else s.afterSends bs answers) := by
  induction bs generalizing s with
  | nil =>
    have hne : rest ≠ [] := by
      rintro rfl
      exact absurd (List.drop_eq_nil_iff.mp hleft) (by omega)
    subst hans
    simp [State.afterSends, hne]
  | cons b bs ih =>
    have hstep := step_of_wok (rest := bs ++ rest) (answers := List.replicate bs.length SendResult.wok ++ answers) hst hm
      hlen hleft hans
    obtain ⟨hcount, hleft'⟩ := left_afterSends (rest := bs ++ rest) hlen hleft
    rw [List.length_cons, runSteps_succ _ hstep]
    by_cases hlast : bs ++ rest = []
    · obtain ⟨rfl, rfl⟩ := List.append_eq_nil_iff.mp hlast
      rfl
    · have hpos := List.length_pos_iff.mpr hlast
      rw [if_neg hlast, ih (by exact hst) (by exact hm) (by exact hlen)
        (show (s.k + 1).toNat < s.txl.length by omega) hleft' rfl, afterSends_append]
      rfl

/-- A frame whose every `Send` is answered WOK is sent whole and in order, in as many steps as it has bytes; the command
runs until the last one (R114, R253). -/
theorem runSteps_wholeFrame (hk : s.k = 0) (hpos : 0 < s.txl.length)
    (hans : s.line.sendAnswers = List.replicate s.txl.length .wok ++ answers) :
    runSteps s.txl.length s = .next (txDone (s.afterSends s.txl answers)) ∧
      ∀ m, m < s.txl.length → ∃ left, runSteps m s = .next (s.afterSends (s.txl.take m) left) := by
  have hk0 : s.k.toNat = 0 := congrArg BitVec.toNat hk
  refine ⟨runSteps_of_wok (rest := []) hst hm hlen (by omega) (by simp [hk0]) hans, fun m hlt => ?_⟩
  have htake : (s.txl.take m).length = m := List.length_take_of_le (by omega)
  have hsplit : List.replicate s.txl.length SendResult.wok ++ answers =
      List.replicate m .wok ++ (List.replicate (s.txl.length - m) .wok ++ answers) := by
    rw [← List.append_assoc, List.replicate_append_replicate, Nat.add_sub_cancel' (by omega)]
  have hrun := runSteps_of_wok (bs := s.txl.take m) (rest := s.txl.drop m) hst hm hlen (by omega) (by simp [hk0])
    (by rw [hans, hsplit, htake])
  rw [htake, if_neg (by simp [hlt])] at hrun
  exact ⟨_, hrun⟩

end Sending

/-! ### TX_A and TX_B -/

/-- TX_A is accepted when no rejection of R110 applies. -/
theorem exec_txA_of_accepted {s : State} (hbusy : s.busy = false) (hlen : s.txlen.toNat ≤ 40) (hproto : s.proto = .a) :
    exec .txA s = .next { start 0x01 .txASend s with
      txchk := (csumA s.txctl.mtype s.payload).setWidth 16, txl := s.frameTxA, k := 0 } := by
  rw [exec_txA, whileIdle_of_idle hbusy]
  obtain ⟨hlong, -⟩ | ⟨-, hb, -⟩ | ⟨-, -, h⟩ := acceptTxA_cases s
  · omega
  · simp [hproto] at hb
  · rw [h]

/-- TX_B is accepted when no rejection of R200 applies. -/
theorem exec_txB_of_accepted {s : State} (hbusy : s.busy = false) (hlen : s.mflTxB ≤ 254) (hproto : s.proto = .b) :
    exec .txB s = .next { start 0x11 .txBSend s with txchk := s.crcTxB, txl := s.frameTxB, k := 0 } := by
  rw [exec_txB, whileIdle_of_idle hbusy]
  obtain ⟨hlong, -⟩ | ⟨-, ha, -⟩ | ⟨-, -, h⟩ := acceptTxB_cases s
  · omega
  · simp [hproto] at ha
  · rw [h]

/-- Settles O35: TX_A is accepted, then its frame is sent whole. -/
theorem txASendsItsFrame : Obligations.TxASendsItsFrame := by
  unfold Obligations.TxASendsItsFrame
  rintro s rest frame hbusy hm hlen hproto rfl hans
  obtain ⟨hpos, hmax⟩ := length_frameTxA hlen
  have hexec := exec_txA_of_accepted hbusy hlen hproto
  have hrun := runSteps_wholeFrame (s := { start 0x01 .txASend s with
    txchk := (csumA s.txctl.mtype s.payload).setWidth 16, txl := s.frameTxA, k := 0 }) rfl hm hmax rfl hpos hans
  refine ⟨_, _, hexec, hrun.1, fun m hlt => ?_, rfl, rfl, rfl, rfl, rfl, rfl, rfl, rfl, rfl, rfl, rfl, rfl, rfl, rfl,
    fun _ => rfl⟩
  obtain ⟨left, hbefore⟩ := hrun.2 m hlt
  exact ⟨_, hbefore, rfl, rfl⟩

/-- Settles O36: TX_B is accepted, then its frame is sent whole. -/
theorem txBSendsItsFrame : Obligations.TxBSendsItsFrame := by
  unfold Obligations.TxBSendsItsFrame
  rintro s rest frame hbusy hm hlen hproto rfl hans
  obtain ⟨hpos, hmax⟩ := length_frameTxB hlen
  have hexec := exec_txB_of_accepted hbusy hlen hproto
  have hrun := runSteps_wholeFrame (s := { start 0x11 .txBSend s with
    txchk := s.crcTxB, txl := s.frameTxB, k := 0 }) rfl hm hmax rfl hpos hans
  refine ⟨_, _, hexec, hrun.1, fun m hlt => ?_, rfl, rfl, rfl, rfl, rfl, rfl, rfl, rfl, rfl, rfl, rfl, rfl, rfl, rfl,
    fun _ => rfl⟩
  obtain ⟨left, hbefore⟩ := hrun.2 m hlt
  exact ⟨_, hbefore, rfl⟩

end Sys2Proof.Machine
end

section
/-! PROOFS. Decoding a CMD word (spec/30_encoding.md R80 to R83, R87), and what a reserved OP does (R82, R225). -/

namespace Sys2Proof

/-! ### The command map, in both directions -/

/-- A word whose low byte is a command's OP decodes to it (R81, R83). -/
theorem decode_of_opField {v : Word} {i : Instr} (h : opField v = i.op) : decode v = .ok i := by
  cases i with
  | txA => exact Laws.OpByte.txA v h
  | rxA => exact Laws.OpByte.rxA v h
  | ackA => exact Laws.OpByte.ackA v h
  | seqReset => exact Laws.OpByte.seqReset v h
  | txB => exact Laws.OpByte.txB v h
  | rxB => exact Laws.OpByte.rxB v h

/-- Only its own OP decodes to a command. -/
theorem op_of_decode {v : Word} {i : Instr} (h : decode v = .ok i) : i.op = opField v := by
  rw [decode, decodeOp] at h
  split_ifs at h with h1 h2 h3 h4 h5 h6 <;> cases h
  · exact h1.symm
  · exact h2.symm
  · exact h3.symm
  · exact h4.symm
  · exact h5.symm
  · exact h6.symm

/-- Every OP outside the command map is reserved (R82). -/
theorem decode_of_reserved {v : Word} (h : opField v ∉ ([0x01, 0x02, 0x03, 0x04, 0x11, 0x12] : List Byte)) :
    decode v = .error (.reservedOp (opField v)) := by
  simp only [List.mem_cons, List.not_mem_nil, or_false, not_or] at h
  obtain ⟨h1, h2, h3, h4, h5, h6⟩ := h
  rw [decode, decodeOp, if_neg h1, if_neg h2, if_neg h3, if_neg h4, if_neg h5, if_neg h6]

@[simp] theorem opField_encode (i : Instr) : opField (encode i) = i.op := by
  cases i <;> rfl

/-- The OP field as a word is the low byte of the CMD word (R21). -/
theorem setWidth_opField (v : Word) : (opField v).setWidth 32 = v &&& 0x000000FF := by
  apply BitVec.eq_of_toNat_eq
  have hmask : v.toNat &&& 255 = v.toNat % 256 := Nat.and_two_pow_sub_one_eq_mod v.toNat 8
  simp [opField, hmask]
  omega

/-- Settles O9: the decoder looks for the OP that the encoder writes. -/
theorem commandWordsRoundTrip : Obligations.CommandWordsRoundTrip := by
  unfold Obligations.CommandWordsRoundTrip
  refine ⟨fun i _ => decode_of_opField (opField_encode i), fun v i h => ?encode, decode_of_opField rfl,
    decode_of_opField rfl, decode_of_opField rfl, decode_of_opField rfl, decode_of_opField rfl, decode_of_opField rfl,
    decode_of_opField rfl, decode_of_reserved (by decide), decode_of_reserved (by decide)⟩
  case encode => rw [encode, op_of_decode h, setWidth_opField]

end Sys2Proof

namespace Sys2Proof.Machine

/-! ### Issuing -/

/-- What a CMD write does depends on what its value decodes to alone. -/
theorem issue_congr {v w : Word} (h : decode v = decode w) (s : State) : issue v s = issue w s := by
  rw [issue, issue, h]

/-- Settles O8: decoding reads the OP alone, and the write acts by what it decodes to. -/
theorem commandBitsAboveOpIgnored : Obligations.CommandBitsAboveOpIgnored := by
  unfold Obligations.CommandBitsAboveOpIgnored
  intro v w hop
  have hdecode : decode v = decode w := congrArg decodeOp hop
  refine ⟨hdecode, fun s ms => ?_⟩
  rw [step_of_cmdWrite (v := v) rfl, step_of_cmdWrite (v := w) rfl]
  exact issue_congr hdecode _

/-- Ending a command where none runs only reports its result (R14). -/
theorem finish_of_idle {s : State} (hbusy : s.busy = false) (hst : s.st = .idle) (r : Result) :
    finish r s = { s with result := r } := by
  rw [finish, ← hbusy, ← hst]

/-- Settles O7: a reserved OP reports its result by `finish`, which in IDLE writes nothing else. -/
theorem reservedOpcodeIsUnsupported : Obligations.ReservedOpcodeIsUnsupported := by
  unfold Obligations.ReservedOpcodeIsUnsupported
  intro s ms v hm hreserved hbusy hst
  rw [step_of_cmdWrite hm, issue_of_error _ (decode_of_reserved hreserved), execReserved_eq, whileIdle_of_idle,
    finish_of_idle] <;> assumption

end Sys2Proof.Machine
end

section
/-! PROOFS. The accepting steps (spec/30_encoding.md R80; spec/40_protocol_a_tx.md R110 to R112; spec/41_protocol_a_rx.md R140;
spec/42_protocol_b.md R200), and ACK_A's whole run (R92, R111). -/

namespace Sys2Proof.Machine

/-- Settles O25: `State.frameTxA` is the frame of the registers' present values. -/
theorem txAIsAccepted : Obligations.TxAIsAccepted := by
  unfold Obligations.TxAIsAccepted
  exact fun s hbusy hlen hproto => exec_txA_of_accepted hbusy hlen hproto

/-- Settles O26: `State.frameTxB` wraps the body of the registers' present values. -/
theorem txBIsAccepted : Obligations.TxBIsAccepted := by
  unfold Obligations.TxBIsAccepted
  rintro s glob body c hbusy hproto rfl hlen rfl rfl
  exact exec_txB_of_accepted hbusy hlen hproto

/-- RX_A is accepted when no rejection of R140 applies. -/
theorem exec_rxA_of_accepted {s : State} (hbusy : s.busy = false) (hnr : s.nr = false) (hproto : s.proto = .a) :
    exec .rxA s = .next { start 0x02 .rxWaitSyn s with acc := 0, i := 0, n := 0 } := by
  rw [exec_rxA, whileIdle_of_idle hbusy]
  obtain ⟨hrejected, -⟩ | ⟨-, -, h⟩ := acceptRxA_cases s
  · simp [hnr, hproto] at hrejected
  · rw [h]

/-- Settles O27: no rejection of R140 applies. -/
theorem rxAIsAccepted : Obligations.RxAIsAccepted := by
  unfold Obligations.RxAIsAccepted
  exact fun s hbusy hnr hproto => exec_rxA_of_accepted hbusy hnr hproto

/-- ACK_A is accepted when no rejection of R111 applies. -/
theorem exec_ackA_of_accepted {s : State} (hbusy : s.busy = false) (hproto : s.proto = .a) :
    exec .ackA s = .next { start 0x03 .txAckSend s with txl := ackFrame, k := 0 } := by
  rw [exec_ackA, whileIdle_of_idle hbusy]
  obtain ⟨hb, -⟩ | ⟨-, h⟩ := acceptAckA_cases s
  · simp [hproto] at hb
  · rw [h]

/-- Settles O28: no rejection of R111 applies, as ADDR is not read. -/
theorem ackAIsAccepted : Obligations.AckAIsAccepted := by
  unfold Obligations.AckAIsAccepted
  exact fun s hbusy hproto => exec_ackA_of_accepted hbusy hproto

/-- Settles O29: SEQ_RESET ends in its accepting step. -/
theorem seqResetSetsSeqToZero : Obligations.SeqResetSetsSeqToZero := by
  unfold Obligations.SeqResetSetsSeqToZero
  intro s hbusy hst
  rw [exec_seqReset, whileIdle_of_idle hbusy, acceptSeqReset, finish_of_idle] <;> assumption

/-- Settles O37: ACK_A is accepted, then its five bytes are sent whole; at the end `op` is not TX_A's, so SEQ stays. -/
theorem ackASendsItsFrame : Obligations.AckASendsItsFrame := by
  unfold Obligations.AckASendsItsFrame
  intro s rest hbusy hm hproto hans
  have hrun := runSteps_wholeFrame (s := { start 0x03 .txAckSend s with txl := ackFrame, k := 0 }) rfl hm
    (by simp [maxFrameLen]) rfl (by simp) hans
  exact ⟨_, _, exec_ackA_of_accepted hbusy hproto, hrun.1, rfl, rfl, rfl, rfl, rfl, rfl, rfl, rfl, fun _ => rfl⟩

end Sys2Proof.Machine
end

section
/-! PROOFS. No run from a legal state stops (spec/30_encoding.md R85; spec/60_exceptions.md R226). -/

namespace Sys2Proof.Machine

/-- No host access stops the block, whatever it is (R226). -/
theorem exists_hostAccess_next (x : Access) (s : State) : ∃ t, hostAccess x s = .next t := by
  match x with
  | .read a w => exact ⟨_, rfl⟩
  | .write a w v =>
    change ∃ t, hostWrite a w v s = .next t
    obtain ⟨-, h⟩ | ⟨-, h⟩ | ⟨x, -, -, h⟩ := hostWrite_cases a w v s
    · exact ⟨_, h⟩
    · obtain ⟨-, hissue⟩ | ⟨-, t, hissue, -⟩ := issue_cases v (s.answer (writeAnswer false))
      · exact ⟨_, h.trans hissue⟩
      · exact ⟨t, h.trans hissue⟩
    · exact ⟨_, h⟩

/-- The engine stops only in a transmit state without a byte to send, which is not legal (R114). -/
theorem State.Inv.exists_engineStep_next {s : State} (hs : s.Inv) : ∃ t, engineStep s = .next t := by
  obtain hst | hst | hst | hst := engineState_cases s.st
  · exact ⟨_, engineStep_of_idle hst⟩
  · obtain ⟨hk, -⟩ := hs.sendIndex hst
    exact ⟨_, (engineStep_of_sending hst).trans (txStep_of_byte (List.getElem?_eq_getElem hk))⟩
  · exact ⟨_, engineStep_of_receiving hst⟩
  · exact ⟨_, engineStep_of_finish hst⟩

/-- A legal state has a next state, whoever moves. -/
theorem State.Inv.exists_step_next {s : State} (hs : s.Inv) : ∃ t, step s = .next t := by
  obtain ⟨-, h⟩ | ⟨ms, -, h⟩ | ⟨x, ms, -, h⟩ | ⟨ms, -, h⟩ | ⟨b, ms, -, h⟩ | ⟨ms, -, h⟩ := step_cases s <;> rw [h]
  · exact hs.exists_engineStep_next
  · have hmoved : ({ s with moves := ms } : State).Inv := hs.of_frame rfl
    exact hmoved.exists_engineStep_next
  · exact exists_hostAccess_next x _
  · exact ⟨_, rfl⟩
  · exact ⟨_, rfl⟩
  · exact ⟨_, rfl⟩

/-- Settles O5, by induction on the number of steps: a legal state has a next state, and that is legal. -/
theorem legalRunNeverStops : Obligations.LegalRunNeverStops := by
  unfold Obligations.LegalRunNeverStops
  intro m
  induction m with
  | zero => exact fun s hs => ⟨s, rfl, hs⟩
  | succ m ih =>
    intro s hs
    obtain ⟨u, hstep⟩ := hs.exists_step_next
    rw [runSteps_succ m hstep]
    exact ih u (stepKeepsLegalState s u hs hstep)

end Sys2Proof.Machine
end

section
/-! PROOFS. The checksum digits and the Protocol A frame (spec/30_encoding.md R91, R95; spec/40_protocol_a_tx.md R102 to R108;
spec/41_protocol_a_rx.md R157). -/

namespace Sys2Proof.Machine

/-! ### Checksum digits -/

theorem hexA_toNat (v : BitVec 4) :
    (hexA v).toNat = if v.toNat < 10 then 0x30 + v.toNat else 0x41 + (v.toNat - 10) % 10 := by
  revert v
  decide

theorem hexval_hexA (v : BitVec 4) : hexval (hexA v) = some v := by
  revert v
  decide

/-- The two ranges of digits, and what each stands for; every other byte is INVALID (R157). -/
theorem hexval_cases (b : Byte) :
    ((0x30 ≤ b.toNat ∧ b.toNat ≤ 0x39) ∧ ∃ v, hexval b = some v ∧ v.toNat = b.toNat - 0x30) ∨
    ((0x41 ≤ b.toNat ∧ b.toNat ≤ 0x46) ∧ ∃ v, hexval b = some v ∧ v.toNat = b.toNat - 0x37) ∨
    (¬(0x30 ≤ b.toNat ∧ b.toNat ≤ 0x39) ∧ ¬(0x41 ≤ b.toNat ∧ b.toNat ≤ 0x46) ∧ hexval b = none) := by
  unfold hexval
  split
  next hdecimal => exact .inl ⟨hdecimal, _, rfl, by simp only [BitVec.toNat_setWidth]; bv_omega⟩
  next hdecimal =>
    split
    next hletter => exact .inr (.inl ⟨hletter, _, rfl, by simp only [BitVec.toNat_setWidth]; bv_omega⟩)
    next hletter => exact .inr (.inr ⟨hdecimal, hletter, rfl⟩)

/-- Settles O53: the digits of `hexval` by their ranges; the two formulas are each other's inverse on them. -/
theorem checksumDigitAlphabet : Obligations.ChecksumDigitAlphabet := by
  unfold Obligations.ChecksumDigitAlphabet
  refine ⟨hexA_toNat, fun b => ?value, hexval_hexA, fun b v hv => ?inverse, fun b => ?accepted⟩
  case value =>
    obtain ⟨hdecimal, v, h, hv⟩ | ⟨hletter, v, h, hv⟩ | ⟨hdecimal, hletter, h⟩ := hexval_cases b
    · rw [h, if_pos hdecimal, Option.map_some, hv]
    · rw [h, if_neg (by omega), if_pos hletter, Option.map_some, hv]
    · rw [h, if_neg hdecimal, if_neg hletter, Option.map_none]
  case inverse =>
    apply BitVec.eq_of_toNat_eq
    rw [hexA_toNat]
    obtain ⟨hdecimal, w, h, hw⟩ | ⟨hletter, w, h, hw⟩ | ⟨-, -, h⟩ := hexval_cases b <;> cases hv.symm.trans h
    · rw [if_pos (by omega)]
      omega
    · rw [if_neg (by omega)]
      omega
  case accepted =>
    obtain ⟨hdecimal, v, h, -⟩ | ⟨hletter, v, h, -⟩ | ⟨hdecimal, hletter, h⟩ := hexval_cases b
    · simp [h, hdecimal]
    · simp [h, hletter]
    · simp only [h, hdecimal, hletter, ne_eq, not_true_eq_false, or_self]

/-! ### The frame (R107) -/

/-- Only a DLE data byte is doubled (R104). -/
theorem length_escA (d : List Byte) : (escA d).length = d.length + d.count DLE := by
  induction d with
  | nil => rfl
  | cons b d ih =>
    rw [escA_cons, List.length_append, ih, List.length_cons]
    by_cases hb : b = DLE
    · subst hb
      rw [escByteA_of_dle rfl, List.count_cons_self, List.length_cons, List.length_singleton]
      omega
    · rw [escByteA_of_ne hb, List.count_cons_of_ne hb, List.length_singleton]
      omega

/-- Settles O55: what is before the post-amble has the length of the frame without it. -/
theorem protocolAFrameShape : Obligations.ProtocolAFrameShape := by
  unfold Obligations.ProtocolAFrameShape
  refine ⟨⟨rfl, escA_cons⟩, fun a q ty d => ?_⟩
  have hesc : (escA d).length = d.length + d.count 0x10 := length_escA d
  refine ⟨rfl, hesc, ?length, rfl, fun hnr => ?postamble⟩
  case length => rw [length_frameA, hesc, length_postamble, ← Nat.add_assoc]
  case postamble =>
    have hpost : postamble a = List.replicate 64 0x03 := if_pos hnr
    rw [frameA, hpost]
    refine List.drop_left' ?_
    simp only [List.length_append, List.length_cons, List.length_nil, hesc, length_csumDigits]
    omega

end Sys2Proof.Machine
end

section
/-! PROOFS. The Protocol B element, body and wire frame (spec/42_protocol_b.md R183 to R190). -/

namespace Sys2Proof.Machine

/-! ### Stuffing -/

/-- Stuffing leaves no marker on the wire (R190). -/
theorem not_mem_stuffB (xs : List Byte) : START ∉ stuffB xs ∧ STOP ∉ stuffB xs := by
  induction xs with
  | nil => simp
  | cons x xs ih =>
    obtain ⟨hstart, hstop⟩ := ih
    have hx : START ∉ escB x ∧ STOP ∉ escB x := by
      obtain ⟨-, h⟩ | ⟨-, h⟩ | ⟨-, h⟩ | ⟨-, hne, hne', h⟩ := escB_cases x <;> rw [h]
      · decide
      · decide
      · decide
      · simp [hne.symm, hne'.symm]
    simp [hx, hstart, hstop]

/-- A reserved value takes two bytes, any other byte one (R189). -/
theorem length_escB (x : Byte) : (escB x).length = 1 + [x].count ESC + [x].count START + [x].count STOP := by
  obtain ⟨rfl, h⟩ | ⟨rfl, h⟩ | ⟨rfl, h⟩ | ⟨hesc, hstart, hstop, h⟩ := escB_cases x <;> rw [h]
  · decide
  · decide
  · decide
  · rw [List.count_cons_of_ne hesc, List.count_cons_of_ne hstart, List.count_cons_of_ne hstop]
    rfl

/-- Stuffing adds one byte for each reserved value (R190). -/
theorem length_stuffB (xs : List Byte) :
    (stuffB xs).length = xs.length + xs.count ESC + xs.count START + xs.count STOP := by
  induction xs with
  | nil => rfl
  | cons x xs ih =>
    have hsplit (y : Byte) : (x :: xs).count y = [x].count y + xs.count y := List.count_append (l₁ := [x])
    rw [stuffB_cons, List.length_append, ih, length_escB, List.length_cons, hsplit, hsplit, hsplit]
    omega

/-- A body is four bytes and its element (R184). -/
theorem length_bodyB (glob : Bool) (a : Half) (m ds ps : Byte) (na : Bool) (d : List Byte) :
    (bodyB glob a m ds ps na d).length = 4 + (elemB glob m ds ps na d).length := by
  rw [bodyB, List.length_append]
  rfl

/-- Settles O58: the wire frame of a body of at most 258 bytes, every byte of it and of the CRC escaped, has 522 bytes. -/
theorem stuffedBytesHoldNoMarker : Obligations.StuffedBytesHoldNoMarker := by
  unfold Obligations.StuffedBytesHoldNoMarker
  refine ⟨⟨rfl, stuffB_cons⟩, fun xs => ?stuffed, fun r body => rfl, fun r glob a mec ds ps na d hlen => ?longest⟩
  case stuffed =>
    obtain ⟨hstart, hstop⟩ := not_mem_stuffB xs
    exact ⟨hstart, hstop, length_stuffB xs⟩
  case longest =>
    have hstuff := length_stuffB_le (withCrc r (bodyB glob a mec ds ps na d))
    rw [length_withCrc, length_bodyB] at hstuff
    rw [length_wrapB]
    omega

/-! ### The element and the body -/

/-- The MFL byte holds every accepted MFL whole (R184, R188). -/
theorem bodyB_mfl {glob na : Bool} {d : List Byte} (a : Half) (m ds ps : Byte) (h : mflOf glob na d.length ≤ 254) :
    ((bodyB glob a m ds ps na d)[3]?).map BitVec.toNat = some (mflOf glob na d.length) := by
  have hbyte : (lenByte (elemB glob m ds ps na d)).toNat = mflOf glob na d.length := by
    rw [lenByte, BitVec.toNat_ofNat, length_elemB]
    omega
  exact congrArg some hbyte

/-- Settles O60: MFL is the element's length; each of DSN and PSN and the length byte takes one byte from the payload. -/
theorem bodyLayoutAndMessageLength : Obligations.BodyLayoutAndMessageLength := by
  unfold Obligations.BodyLayoutAndMessageLength
  refine ⟨fun glob a mec ds ps na d => ⟨rfl, rfl, (length_elemB ..).symm, rfl, ?positive, bodyB_mfl a mec ds ps⟩,
    fun s glob hglob => ?txB, fun g => rfl, fun n glob na => ?largest⟩
  case positive =>
    rw [mflOf]
    omega
  case txB =>
    subst hglob
    refine ⟨?_, rfl⟩
    rw [length_elemB, length_payload]
    rfl
  case largest => cases glob <;> cases na <;> simp only [mflOf, if_true, if_false, Bool.false_eq_true] <;> omega

end Sys2Proof.Machine
end

section
/-! PROOFS. The transmit step (spec/40_protocol_a_tx.md R114) and the `Send` that fails (spec/60_exceptions.md R227 to
R229). -/

namespace Sys2Proof.Machine

theorem txVerdict_wtimeout (b : Byte) (s : State) : txVerdict b .wtimeout s = raise .timeout .timeout b s := rfl

theorem txVerdict_wioerr (b : Byte) (s : State) : txVerdict b .wioerr s = raise .ioFailure .io b s := rfl

/-- Settles O34, one clause for each verdict of R114; `Send` leaves what the verdict reads as it was. -/
theorem transmitStep : Obligations.TransmitStep := by
  unfold Obligations.TransmitStep
  intro s u b r hst hb hsend
  have hstep : engineStep s = .next (txVerdict b r u) := by rw [engineStep_of_sending hst, txStep_of_byte hb, hsend]
  obtain ⟨as, d, hu⟩ := send_spec b s
  simp only [hsend] at hu
  subst hu
  refine ⟨?more, ?last, ?timeout, ?io⟩
  case more =>
    rintro rfl hmore
    rw [hstep, txVerdict_wok, if_neg hmore]
  case last =>
    rintro rfl hlast
    rw [hstep, txVerdict_wok, if_pos hlast, txDone_eq]
    rfl
  case timeout =>
    rintro rfl
    rw [hstep, txVerdict_wtimeout]
    rfl
  case io =>
    rintro rfl
    rw [hstep, txVerdict_wioerr]
    rfl

/-- Every answer but WOK ends the command by the failure of its kind (R114, R228). -/
theorem txVerdict_of_ne_wok {r : SendResult} (h : r ≠ .wok) (b : Byte) (s : State) :
    txVerdict b r s =
      raise (if r = .wtimeout then .timeout else .ioFailure) (if r = .wtimeout then .timeout else .io) b s := by
  cases r with
  | wok => exact absurd rfl h
  | wtimeout => rfl
  | wioerr => rfl

/-- Settles O38: the `j` bytes that are answered WOK are sent as in any run, and the next step's answer ends it. -/
theorem transmitFailureStopsAtTheByte : Obligations.TransmitFailureStopsAtTheByte := by
  unfold Obligations.TransmitFailureStopsAtTheByte
  intro s j b r rest hst hm hlen hb hr hans
  obtain ⟨hlt, -⟩ := List.getElem?_eq_some_iff.mp hb
  have hcount : ((s.txl.drop s.k.toNat).take j).length = j := by
    rw [List.length_take, List.length_drop]
    omega
  have hrun := runSteps_of_wok (bs := (s.txl.drop s.k.toNat).take j) (rest := (s.txl.drop s.k.toNat).drop j)
    (answers := r :: rest) hst hm hlen (by omega) (List.take_append_drop ..).symm (by rw [hcount, hans])
  rw [hcount, List.drop_drop, if_neg (by simp [hlt])] at hrun
  have hk : (s.k + BitVec.ofNat 10 ((s.txl.drop s.k.toNat).take j).length).toNat = s.k.toNat + j := by
    rw [hcount, BitVec.toNat_add, BitVec.toNat_ofNat]
    omega
  have hstep := step_of_sendAnswer (s := s.afterSends ((s.txl.drop s.k.toNat).take j) (r :: rest)) (b := b) hst hm
    (hk ▸ hb) rfl
  rw [if_neg hr, txVerdict_of_ne_wok hr] at hstep
  refine ⟨_, (runSteps_add j 1 hrun).trans (runSteps_succ 0 hstep), rfl, rfl, rfl, rfl, rfl, rfl, rfl, rfl, fun _ => rfl⟩

end Sys2Proof.Machine
end

section
/-! PROOFS. The checksum's accumulator (spec/40_protocol_a_tx.md R100, R101) and the sequence counter (R106, R109, R113). -/

namespace Sys2Proof.Machine

theorem loByte_toNat (v : Half) : (loByte v).toNat = v.toNat % 256 := by
  rw [loByte, BitVec.extractLsb'_toNat, Nat.shiftRight_zero]

theorem lenByte_toNat {d : List Byte} (hd : d.length ≤ 40) : (lenByte d).toNat = d.length := by
  rw [lenByte, BitVec.toNat_ofNat]
  omega

/-- While the sum fits in 16 bits the accumulator holds it (R101). -/
theorem toNat_foldl_addByte (d : List Byte) (acc : Half) (h : acc.toNat + (d.map BitVec.toNat).sum < 65536) :
    (d.foldl addByte acc).toNat = acc.toNat + (d.map BitVec.toNat).sum := by
  induction d generalizing acc with
  | nil => simp
  | cons b d ih =>
    rw [List.map_cons, List.sum_cons] at h ⊢
    have hadd : (addByte acc b).toNat = acc.toNat + b.toNat := by
      rw [addByte, BitVec.toNat_add, BitVec.toNat_setWidth]
      omega
    rw [List.foldl_cons, ih _ (by omega), hadd, Nat.add_assoc]

/-- A byte adds at most 255 (R101). -/
theorem sum_toNat_le (d : List Byte) : (d.map BitVec.toNat).sum ≤ d.length * 255 := by
  have hbyte : ∀ x ∈ d.map BitVec.toNat, x ≤ 255 := by
    intro x hx
    obtain ⟨b, -, rfl⟩ := List.mem_map.mp hx
    omega
  simpa using List.sum_le_card_nsmul _ _ hbyte

theorem bodySum_eq_foldl (t n : Byte) (d : List Byte) : bodySum t n d = (t :: n :: d).foldl addByte 0#16 := rfl

/-- Settles O54: the sum of 42 bytes fits in the accumulator, which is cut to its low byte. -/
theorem checksumIsSumModulo256 : Obligations.ChecksumIsSumModulo256 := by
  unfold Obligations.ChecksumIsSumModulo256
  intro ty d hlen
  have hdata := sum_toNat_le d
  have hn : (BitVec.ofNat 8 d.length).toNat = d.length := lenByte_toNat hlen
  have hsum : ((ty :: BitVec.ofNat 8 d.length :: d).map BitVec.toNat).sum =
      ty.toNat + d.length + (d.map BitVec.toNat).sum := by
    rw [List.map_cons, List.map_cons, List.sum_cons, List.sum_cons, hn, Nat.add_assoc]
  have hbound : ty.toNat + d.length + (d.map BitVec.toNat).sum ≤ 10495 := by omega
  have hacc : (bodySum ty (BitVec.ofNat 8 d.length) d).toNat = ty.toNat + d.length + (d.map BitVec.toNat).sum := by
    rw [bodySum_eq_foldl, toNat_foldl_addByte _ _ (by rw [hsum, BitVec.toNat_zero]; omega), hsum, BitVec.toNat_zero,
      Nat.zero_add]
  exact ⟨hacc, hbound, by rw [csumA, lenByte, loByte_toNat, hacc]⟩

/-- `m` steps of the counter add `m` modulo 10 (R109). -/
theorem iterate_nextSeq_toNat (q : BitVec 4) (hq : q.toNat ≤ 9) (m : Nat) :
    (nextSeq^[m] q).toNat = (q.toNat + m) % 10 := by
  induction m with
  | zero => exact (Nat.mod_eq_of_lt (show q.toNat < 10 by omega)).symm
  | succ m ih =>
    rw [Function.iterate_succ_apply', nextSeq_toNat, ih]
    omega

theorem seqDigit_toNat (q : BitVec 4) : (seqDigit q).toNat = 0x30 + q.toNat := by
  rw [seqDigit]
  bv_omega

/-- Settles O56: ten steps add 10, which is 0 modulo 10. -/
theorem sequenceCounterCycles : Obligations.SequenceCounterCycles := by
  unfold Obligations.SequenceCounterCycles
  intro q hq
  have hdigit := seqDigit_toNat q
  refine ⟨nextSeq_toNat q, by omega, by omega, BitVec.eq_of_toNat_eq ?_⟩
  rw [iterate_nextSeq_toNat q hq]
  omega

end Sys2Proof.Machine
end

section
/-! PROOFS. RX_A that is supplied some bytes and nothing after them (spec/41_protocol_a_rx.md R141, R142, R162): what makes
it end in a failure, and that a reply with one byte of its body changed does (R165). -/

namespace Sys2Proof.Machine

/-! ### Runs that end in a failure -/

/-- No run from the state reports OK, and after `n` steps the command has ended with a failure of R165. -/
def EndsInFailure (n : Nat) (s : State) : Prop :=
  (∀ m t, runSteps m s = .next t → t.result ≠ .ok) ∧
    ∃ t, runSteps n s = .next t ∧ t.busy = false ∧ t.st = .idle ∧
      (t.result = .protocolViolation ∨ t.result = .timeout)

theorem runSteps_of_idle {s : State} (hm : s.moves = []) (hst : s.st = .idle) (m : Nat) : runSteps m s = .next s := by
  induction m with
  | zero => rfl
  | succ m ih => rw [runSteps_succ m ((step_of_nil hm).trans (engineStep_of_idle hst)), ih]

theorem EndsInFailure.of_step {n : Nat} {s t : State} (h : EndsInFailure n t) (hstep : step s = .next t)
    (hs : s.result ≠ .ok) : EndsInFailure (n + 1) s := by
  obtain ⟨hnever, hends⟩ := h
  refine ⟨fun m u hrun => ?_, by rwa [runSteps_succ n hstep]⟩
  cases m with
  | zero =>
    cases hrun
    exact hs
  | succ m => exact hnever m u (by rwa [runSteps_succ m hstep] at hrun)

/-- A pending failure is all that RX_FINISH reports (R162). -/
theorem FinishStep.of_failure {s t : State} (h : FinishStep s t) (hpend : s.pend.isFailure = true) :
    t = finish s.pend s.flush := by
  cases h with
  | ok hok | ackOnly hok => simp [hok, Result.isFailure] at hpend
  | other => rfl

/-- RX_FINISH with a failure pending ends the command with it, and the engine rests. -/
theorem endsInFailure_of_pend {s : State} (hm : s.moves = []) (hst : s.st = .rxFinish) (hs : s.result ≠ .ok)
    (hpend : s.pend = .protocolViolation ∨ s.pend = .timeout) (n : Nat) : EndsInFailure (n + 1) s := by
  have hstep : step s = .next (rxFinishStep s) := (step_of_nil hm).trans (engineStep_of_finish hst)
  rw [(rxFinishStep_cases s).of_failure (by obtain h | h := hpend <;> rw [h] <;> rfl)] at hstep
  have hrest := runSteps_of_idle (s := finish s.pend s.flush) hm rfl
  refine EndsInFailure.of_step ⟨fun m t hrun => ?_, _, hrest n, rfl, rfl, hpend⟩ hstep hs
  cases (hrest m).symm.trans hrun
  rintro (hok : s.pend = .ok)
  simp [hok] at hpend

/-! ### Reading what the transport holds -/

/-- RX_A runs, the transport holds the bytes `w`, and the next `Recv` after them times out. -/
structure State.Supplied (w : List Byte) (s : State) : Prop where
  moves : s.moves = []
  result : s.result = .none
  held : s.line.held = w
  timesOut : ∃ rest, s.line.recvAnswers = .rtimeout :: rest

/-- RX_A fails from every state with `P` that is supplied `w` and nothing after it, in a step for each byte, one for the
`Recv` that times out and one for RX_FINISH (R253). `P` is about the block, not about the transport. -/
def FailsFrom (P : State → Prop) (w : List Byte) : Prop :=
  ∀ s : State, s.Supplied w → P s → EndsInFailure (w.length + 2) s

/-- A supplied byte is read and consumed. -/
theorem State.Supplied.step {s : State} {b : Byte} {w : List Byte} (h : s.Supplied (b :: w))
    (hst : s.st.receiving = true) :
    ∃ l, Machine.step s = .next (rxByte b { s with line := l }) ∧ (rxByte b { s with line := l }).Supplied w := by
  obtain ⟨hm, hresult, hheld, hanswers⟩ := h
  refine ⟨{ s.line with held := w }, ?_, ?_⟩
  · rw [step_of_nil hm, engineStep_of_receiving hst, rxStep_of_byte (recv_of_held hheld)]
  · rw [(rxByte_cases b (s := { s with line := { s.line with held := w } }) hst).frame]
    exact ⟨hm, hresult, rfl, hanswers⟩

section Rules

variable {P Q : State → Prop} {b : Byte} {w : List Byte} (hst : ∀ s, P s → s.st.receiving = true)

include hst

/-- A `Recv` that times out ends the command with TIMEOUT (R141). -/
theorem failsFrom_nil : FailsFrom P [] := by
  intro s ⟨hm, hresult, hheld, rest, hanswers⟩ hP
  have hstep : step s = .next (rxFail .timeout s.st.code .timeout 0 0
      { s with line := { s.line with recvAnswers := rest } }) := by
    rw [step_of_nil hm, engineStep_of_receiving (hst s hP), rxStep_of_timeout (recv_of_answer hheld hanswers)]
  refine EndsInFailure.of_step (endsInFailure_of_pend ?_ rfl ?_ (.inr rfl) 0) hstep (by simp [hresult])
  · exact hm
  · simp [hresult]

/-- A byte that leads on to where RX_A fails. -/
theorem failsFrom_cons (hbyte : ∀ s l, P s → Q (rxByte b { s with line := l })) (h : FailsFrom Q w) :
    FailsFrom P (b :: w) := by
  intro s hs hP
  obtain ⟨l, hstep, hnext⟩ := hs.step (hst s hP)
  exact (h _ hnext (hbyte s l hP)).of_step hstep (by simp [hs.result])

/-- A byte that is a violation (R142), whatever follows it. -/
theorem failsFrom_viol
    (hbyte : ∀ s l, P s → ∃ kind x computed u, rxByte b { s with line := l } = viol kind x computed u) :
    FailsFrom P (b :: w) := by
  refine failsFrom_cons (Q := fun s => s.st = .rxFinish ∧ s.pend = .protocolViolation) hst (fun s l hP => ?_) ?_
  · obtain ⟨kind, x, computed, u, h⟩ := hbyte s l hP
    rw [h]
    exact ⟨rfl, rfl⟩
  · intro s hs ⟨hfin, hpend⟩
    exact endsInFailure_of_pend hs.moves hfin (by simp [hs.result]) (.inl hpend) (w.length + 1)

end Rules

/-! ### The header (R143 to R152) -/

/-- `frameA` up to its type byte (R107). -/
def headerA (a : Half) (q : BitVec 4) : List Byte := [SYN, SYN, SOH, hiByte a, loByte a, seqDigit q, DLE, STX]

/-- The trailer of a frame whose checksum is `c` (R107). -/
def trailerA (c : Byte) : List Byte := DLE :: ETX :: (csumDigits c ++ [SYN])

/-- A header byte that moves the engine on to where RX_A fails. -/
theorem failsFrom_advance {e : EngineState} (e' : EngineState) {b : Byte} {w : List Byte} (he : e.receiving = true)
    (hbyte : ∀ s : State, (rxByte b { s with st := e }).st = e') (h : FailsFrom (·.st = e') w) :
    FailsFrom (·.st = e) (b :: w) := by
  refine failsFrom_cons (fun s hst => hst ▸ he) (fun s l hst => ?_) h
  rw [eq_with_st (s := { s with line := l }) hst]
  exact hbyte _

/-- The handshake and a header from any address with any sequence digit are read up to the type byte. -/
theorem failsFrom_header (a : Half) (q : BitVec 4) {w : List Byte} (h : FailsFrom (·.st = .rxReadType) w) :
    FailsFrom (·.st = .rxWaitSyn) ([SYN, SYN, ACK, SYN] ++ (headerA a q ++ w)) :=
  failsFrom_advance .rxSkipExtraSyns rfl (fun _ => rfl) <|
  failsFrom_advance .rxSkipExtraSyns rfl (fun _ => rfl) <|
  failsFrom_advance .rxExpectSynAfterAck rfl (fun _ => rfl) <|
  failsFrom_advance .rxExpectEmptyOrFrame rfl (fun _ => rfl) <|
  failsFrom_advance .rxHdrSyn rfl (fun _ => rfl) <|
  failsFrom_advance .rxHdrSoh rfl (fun _ => rfl) <|
  failsFrom_advance .rxHdrAddrHi rfl (fun _ => rfl) <|
  failsFrom_advance .rxHdrAddrLo rfl (fun _ => rfl) <|
  failsFrom_advance .rxHdrSeq rfl (fun _ => rfl) <|
  failsFrom_advance .rxExpectDleStx rfl (fun _ => rfl) <|
  failsFrom_advance .rxExpectStx rfl (fun _ => rfl) <|
  failsFrom_advance .rxReadType rfl (fun _ => rfl) h

/-! ### The data region and the trailer (R153 to R161), by the number of data bytes left and the sum so far -/

/-- The engine is in `e` with `r` data bytes left to decode and `acc` in the accumulator. -/
def State.Reads (e : EngineState) (r : Nat) (acc : Half) (s : State) : Prop :=
  s.st = e ∧ s.acc = acc ∧ s.i.toNat + r = s.n.toNat ∧ s.n.toNat ≤ 40

/-- Where the engine reads on with `r` data bytes left (R153, R155). -/
def dataState (r : Nat) : EngineState := if r = 0 then .rxExpectDleEtx else .rxReadData

/-- RX_A fails when it reads `w` with `r` data bytes left and `acc` in the accumulator. -/
def ReplyFails (r : Nat) (acc : Half) (w : List Byte) : Prop := FailsFrom (State.Reads (dataState r) r acc) w

theorem dataState_receiving (r : Nat) : (dataState r).receiving = true := by
  unfold dataState
  split <;> rfl

theorem State.Reads.receiving {e : EngineState} {r : Nat} {acc : Half} (he : e.receiving = true) (s : State)
    (h : s.Reads e r acc) : s.st.receiving = true := by
  obtain ⟨hst, -⟩ := h
  rw [hst, he]

/-- A stored byte is one data byte less to decode, added to the sum (R155). -/
theorem State.Reads.storeData {e : EngineState} {r : Nat} {acc : Half} {s : State} (h : s.Reads e (r + 1) acc) (b : Byte) :
    (Machine.storeData b s).Reads (dataState r) r (addByte acc b) := by
  obtain ⟨-, rfl, hcount, hn⟩ := h
  have hi : (s.i + 1).toNat = s.i.toNat + 1 := index_succ_toNat (show s.i.toNat < 40 by omega)
  refine ⟨?_, rfl, show (s.i + 1).toNat + r = s.n.toNat by omega, hn⟩
  have hend : (s.i + 1).toNat = s.n.toNat ↔ r = 0 := by omega
  exact if_congr hend rfl rfl

section Reply

variable {r : Nat} {acc : Half} {b c : Byte} {w : List Byte}

theorem replyFails_nil : ReplyFails r acc [] := failsFrom_nil (State.Reads.receiving (dataState_receiving r))

/-- A data byte other than DLE stands for itself (R154). -/
theorem replyFails_plain (hb : b ≠ DLE) (h : ReplyFails r (addByte acc b) w) : ReplyFails (r + 1) acc (b :: w) := by
  refine failsFrom_cons (State.Reads.receiving rfl) (fun s l hs => ?_) h
  obtain ⟨hst, -⟩ := id hs
  have hbyte : rxByte b { s with line := l } = storeData b { s with line := l } := by
    simp [rxByte, hst, dataState, rxReadData, hb]
  rw [hbyte]
  exact State.Reads.storeData (s := { s with line := l }) hs b

/-- A byte after DLE is a data byte, whatever it is (R156). -/
theorem replyFails_escaped (h : ReplyFails r (addByte acc b) w) : ReplyFails (r + 1) acc (DLE :: b :: w) := by
  refine failsFrom_cons (Q := State.Reads .rxReadDataEsc (r + 1) acc) (State.Reads.receiving rfl) (fun s l hs => ?marker)
    (failsFrom_cons (State.Reads.receiving rfl) (fun s l hs => ?byte) h)
  case marker =>
    obtain ⟨hst, hreads⟩ := hs
    have hbyte : rxByte DLE { s with line := l } = { s with line := l, st := .rxReadDataEsc } := by
      simp [rxByte, hst, dataState, rxReadData]
    rw [hbyte]
    exact ⟨rfl, hreads⟩
  case byte =>
    obtain ⟨hst, -⟩ := id hs
    have hbyte : rxByte b { s with line := l } = storeData b { s with line := l } := by
      simp [rxByte, hst, rxReadDataEsc]
    rw [hbyte]
    exact State.Reads.storeData (s := { s with line := l }) hs b

/-- After the last data byte only DLE may follow (R158). -/
theorem replyFails_zero_of_ne_dle (hb : b ≠ DLE) : ReplyFails 0 acc (b :: w) := by
  refine failsFrom_viol (State.Reads.receiving rfl) fun s l ⟨hst, _⟩ => ⟨.unexpected, b, 0, { s with line := l }, ?_⟩
  simp [rxByte, hst, dataState, rxExpectDleEtx, expectByte_of_ne hb]

/-- The DLE of the trailer leads to RX_EXPECT_ETX (R158). -/
theorem replyFails_zero_dle (h : FailsFrom (fun s => s.st = .rxExpectEtx ∧ s.acc = acc) w) :
    ReplyFails 0 acc (DLE :: w) := by
  refine failsFrom_cons (State.Reads.receiving rfl) (fun s l ⟨hst, hacc, _⟩ => ?_) h
  have hbyte : rxByte DLE { s with line := l } = { s with line := l, st := .rxExpectEtx } := by
    simp [rxByte, hst, dataState, rxExpectDleEtx, expectByte_of_eq]
  rw [hbyte]
  exact ⟨rfl, hacc⟩

/-- After the DLE of the trailer only ETX may follow (R158). -/
theorem replyFails_zero_of_ne_etx (hb : b ≠ ETX) : ReplyFails 0 acc (DLE :: b :: w) := by
  refine replyFails_zero_dle (failsFrom_viol (fun s ⟨hst, _⟩ => hst ▸ rfl) fun s l ⟨hst, _⟩ =>
    ⟨.unexpected, b, 0, { s with line := l }, ?_⟩)
  simp [rxByte, hst, rxExpectEtx, expectByte_of_ne hb]

theorem csumOfDigits_extract (c : Byte) : csumOfDigits (c.extractLsb' 4 4) (c.extractLsb' 0 4) = c := by
  apply BitVec.eq_of_toNat_eq
  have h16 : BitVec.toNat (16 : Byte) = 16 := rfl
  simp only [csumOfDigits, BitVec.toNat_add, BitVec.toNat_mul, BitVec.toNat_setWidth, BitVec.extractLsb'_toNat,
    Nat.shiftRight_eq_div_pow, h16]
  omega

/-- A trailer with another checksum than the sum's low byte (R159, R160). -/
theorem replyFails_of_csum_ne (hc : c ≠ loByte acc) : ReplyFails 0 acc (trailerA c) := by
  refine replyFails_zero_dle (failsFrom_cons (Q := fun s => s.st = .rxReadCsumHi ∧ s.acc = acc)
    (fun s ⟨hst, _⟩ => hst ▸ rfl) (fun s l ⟨hst, hacc⟩ => ?etx)
    (failsFrom_cons (Q := fun s => s.st = .rxReadCsumLo ∧ s.acc = acc ∧ s.hi = c.extractLsb' 4 4)
      (fun s ⟨hst, _⟩ => hst ▸ rfl) (fun s l ⟨hst, hacc⟩ => ?high)
      (failsFrom_viol (fun s ⟨hst, _⟩ => hst ▸ rfl) fun s l ⟨hst, hacc, hhi⟩ => ?low)))
  case etx =>
    have hbyte : rxByte ETX { s with line := l } = { s with line := l, st := .rxReadCsumHi } := by
      simp [rxByte, hst, rxExpectEtx, expectByte_of_eq]
    rw [hbyte]
    exact ⟨rfl, hacc⟩
  case high =>
    have hbyte : rxByte (hexA (c.extractLsb' 4 4)) { s with line := l } =
        { s with line := l, hi := c.extractLsb' 4 4, st := .rxReadCsumLo } := by
      simp [rxByte, hst, rxReadCsumHi, hexval_hexA]
    rw [hbyte]
    exact ⟨rfl, hacc, rfl⟩
  case low =>
    have hne : csumOfDigits s.hi (c.extractLsb' 0 4) ≠ loByte s.acc := by rwa [hhi, csumOfDigits_extract, hacc]
    have hbyte : rxByte (hexA (c.extractLsb' 0 4)) { s with line := l } =
        rxReadCsumLo (hexA (c.extractLsb' 0 4)) { s with line := l } := by
      simp [rxByte, hst]
    exact ⟨_, _, _, _, hbyte.trans (rxReadCsumLo_of_ne (s := { s with line := l }) (hexval_hexA _) hne)⟩

/-- Bytes without a DLE hold no trailer: they are data, or a violation where the data have ended (R154, R158). -/
theorem replyFails_of_dle_not_mem (h : DLE ∉ w) : ReplyFails r acc w := by
  induction w generalizing r acc with
  | nil => exact replyFails_nil
  | cons b w ih =>
    obtain ⟨hb, hw⟩ := List.ne_and_not_mem_of_not_mem_cons h
    cases r with
    | zero => exact replyFails_zero_of_ne_dle hb.symm
    | succ r => exact replyFails_plain hb.symm (ih hw)

/-- The type and the length byte start the data region with their sum; a length above 40 is a violation (R153). -/
theorem failsFrom_type {t n : Byte} (h : n.toNat ≤ 40 → ReplyFails n.toNat (addByte (addByte 0 t) n) w) :
    FailsFrom (·.st = .rxReadType) (t :: n :: w) := by
  refine failsFrom_cons (Q := fun s => s.st = .rxReadLen ∧ s.acc = addByte 0 t) (fun s hst => hst ▸ rfl)
    (fun s l hst => ?type) ?length
  case type =>
    have hbyte : rxByte t { s with line := l } =
        { s with line := l, rt := t, acc := t.setWidth 16, st := .rxReadLen } := by
      simp [rxByte, hst, rxReadType]
    rw [hbyte]
    exact ⟨rfl, (BitVec.zero_add _).symm⟩
  case length =>
    by_cases hn : n.toNat ≤ 40
    · refine failsFrom_cons (fun s ⟨hst, _⟩ => hst ▸ rfl) (fun s l ⟨hst, hacc⟩ => ?_) (h hn)
      have hbyte : rxByte n { s with line := l } = { s with
          line := l, n := n, acc := addByte s.acc n, i := 0, st := if n = 0 then .rxExpectDleEtx else .rxReadData } := by
        simp [rxByte, hst, rxReadLen, Config.aMaxLen, hn]
      have hzero : n = 0 ↔ n.toNat = 0 := BitVec.toNat_inj.symm
      rw [hbyte]
      exact ⟨if_congr hzero rfl rfl, by rw [hacc], Nat.zero_add _, hn⟩
    · refine failsFrom_viol (fun s ⟨hst, _⟩ => hst ▸ rfl) fun s l ⟨hst, _⟩ => ⟨.length, n, 0, { s with line := l }, ?_⟩
      simp [rxByte, hst, rxReadLen, Config.aMaxLen, hn]

/-! ### Escaped data (R104, R154 to R156) -/

/-- The wire form of a data byte is read as that byte. -/
theorem replyFails_escByteA (h : ReplyFails r (addByte acc b) w) : ReplyFails (r + 1) acc (escByteA b ++ w) := by
  by_cases hb : b = DLE
  · rw [escByteA_of_dle hb]
    exact replyFails_escaped (hb ▸ h)
  · rw [escByteA_of_ne hb]
    exact replyFails_plain hb h

/-- Escaped data are read as the data. -/
theorem replyFails_escA {d : List Byte} (h : ReplyFails r (d.foldl addByte acc) w) :
    ReplyFails (r + d.length) acc (escA d ++ w) := by
  induction d generalizing acc with
  | nil => exact h
  | cons b d ih =>
    rw [escA_cons, List.append_assoc]
    exact replyFails_escByteA (ih h)

theorem hexA_ne_dle (v : BitVec 4) : hexA v ≠ DLE := by
  revert v
  decide

/-- The trailer is no data: what follows its first two bytes holds no DLE. -/
theorem replyFails_trailerA_of_left : ReplyFails (r + 1) acc (trailerA c) := by
  refine replyFails_escaped (replyFails_of_dle_not_mem ?_)
  have hsyn : DLE ≠ SYN := by decide
  simp [csumDigits, (hexA_ne_dle _).symm, hsyn]

/-- Data that go on are no trailer. -/
theorem replyFails_zero_escA_cons {d : List Byte} : ReplyFails 0 acc (escA (b :: d) ++ w) := by
  rw [escA_cons]
  by_cases hb : b = DLE
  · rw [escByteA_of_dle hb]
    exact replyFails_zero_of_ne_etx (by decide)
  · rw [escByteA_of_ne hb]
    exact replyFails_zero_of_ne_dle hb

/-! ### A changed byte (R165) -/

theorem loByte_addByte (acc : Half) (b : Byte) : loByte (addByte acc b) = loByte acc + b := by
  apply BitVec.eq_of_toNat_eq
  rw [loByte_toNat, BitVec.toNat_add, loByte_toNat, addByte, BitVec.toNat_add, BitVec.toNat_setWidth]
  omega

/-- Adding the same bytes keeps two checksums apart. -/
theorem loByte_foldl_ne {acc acc' : Half} (h : loByte acc ≠ loByte acc') (d : List Byte) :
    loByte (d.foldl addByte acc) ≠ loByte (d.foldl addByte acc') := by
  induction d generalizing acc acc' with
  | nil => exact h
  | cons b d ih => exact ih (by simpa [loByte_addByte] using h)

/-- One changed byte changes the checksum. -/
theorem loByte_foldl_addByte_ne {x b : Byte} (h : x ≠ b) (acc : Half) (d : List Byte) :
    loByte (d.foldl addByte (addByte acc x)) ≠ loByte (d.foldl addByte (addByte acc b)) :=
  loByte_foldl_ne (by simpa [loByte_addByte] using h) d

theorem replyFails_of_sum_ne {d : List Byte} (hc : c ≠ loByte (d.foldl addByte acc)) :
    ReplyFails d.length acc (escA d ++ trailerA c) := by
  simpa using replyFails_escA (r := 0) (replyFails_of_csum_ne hc)

/-- A data byte that became an escape marker takes one byte with it, and the data run out. -/
theorem replyFails_of_new_marker (d : List Byte) : ReplyFails (1 + d.length) acc (DLE :: (escA d ++ trailerA c)) := by
  induction d generalizing acc with
  | nil => exact replyFails_escaped (replyFails_zero_of_ne_dle (by decide))
  | cons b d ih =>
    rw [escA_cons]
    by_cases hb : b = DLE
    · rw [escByteA_of_dle hb]
      exact replyFails_escaped ih
    · rw [escByteA_of_ne hb]
      exact replyFails_escaped (replyFails_escA (r := 1) replyFails_trailerA_of_left)

/-- A DLE left over before the data escapes the first byte after it; as many data bytes are read, with another sum. -/
theorem replyFails_of_left_over_dle {d : List Byte} (hc : c ≠ loByte (d.foldl addByte acc)) :
    ReplyFails d.length acc (DLE :: (escA d ++ trailerA c)) := by
  induction d generalizing acc with
  | nil => exact replyFails_zero_of_ne_etx (by decide)
  | cons b d ih =>
    rw [escA_cons]
    by_cases hb : b = DLE
    · rw [escByteA_of_dle hb]
      exact replyFails_escaped (ih (hb ▸ hc))
    · rw [escByteA_of_ne hb]
      exact replyFails_escaped (replyFails_of_sum_ne hc)

/-- The data region with one byte of its wire form changed, before a trailer with the checksum of the data that were sent:
either as many data bytes are read and one differs, or the data end elsewhere than the trailer begins. -/
theorem replyFails_of_data_changed (d : List Byte) {j : Nat} (hj : j < (escA d).length) (hb : (escA d)[j]? ≠ some b) :
    ReplyFails d.length acc ((escA d).set j b ++ trailerA (loByte (d.foldl addByte acc))) := by
  induction d generalizing acc j with
  | nil => exact absurd hj (Nat.not_lt_zero j)
  | cons x d ih =>
    have hsum (h : x ≠ b) := loByte_foldl_addByte_ne h acc d
    rw [escA_cons] at hj hb ⊢
    by_cases hx : x = DLE
    · rw [escByteA_of_dle hx] at hj hb ⊢
      match j with
      | 0 =>
        have hne : b ≠ DLE := fun h => hb (h ▸ rfl)
        exact replyFails_plain hne (replyFails_of_left_over_dle (hsum (hx ▸ hne.symm)))
      | 1 =>
        have hne : b ≠ DLE := fun h => hb (h ▸ rfl)
        exact replyFails_escaped (replyFails_of_sum_ne (hsum (hx ▸ hne.symm)))
      | j + 2 => exact replyFails_escaped (hx ▸ ih (Nat.lt_of_add_lt_add_right hj) hb)
    · rw [escByteA_of_ne hx] at hj hb ⊢
      match j with
      | 0 =>
        have hne : x ≠ b := fun h => hb (h ▸ rfl)
        by_cases hmarker : b = DLE
        · subst hmarker
          rw [List.length_cons, Nat.add_comm]
          exact replyFails_of_new_marker d
        · exact replyFails_plain hmarker (replyFails_of_sum_ne (hsum hne))
      | j + 1 => exact replyFails_plain hx (ih (Nat.lt_of_add_lt_add_right hj) hb)

/-- The data region read with another length byte than the frame's own. -/
theorem replyFails_of_length_ne {d : List Byte} {n : Nat} (hn : n ≠ d.length) :
    ReplyFails n acc (escA d ++ trailerA c) := by
  obtain hlt | hgt := Nat.lt_or_gt_of_ne hn
  · obtain ⟨x, rest, hrest⟩ := List.exists_cons_of_ne_nil (l := d.drop n) (by simp [hlt])
    have hd : d = d.take n ++ x :: rest := by rw [← hrest, List.take_append_drop]
    have hcount : (d.take n).length = n := List.length_take_of_le hlt.le
    rw [hd, escA_append, List.append_assoc]
    simpa [hcount] using replyFails_escA (r := 0) (d := d.take n) (replyFails_zero_escA_cons (acc := _))
  · obtain ⟨r, rfl⟩ := Nat.exists_eq_add_of_lt hgt
    rw [Nat.add_assoc, Nat.add_comm]
    exact replyFails_escA replyFails_trailerA_of_left

/-- The bytes of `frameA` from its type byte to its trailing SYN (R107). -/
def bodyA (t : Byte) (d : List Byte) : List Byte := t :: lenByte d :: (escA d ++ trailerA (csumA t d))

/-- Another type changes the sum, another length the number of data bytes read, another data byte one or the other. -/
theorem failsFrom_changed_body {t : Byte} {d : List Byte} {j : Nat} (hd : d.length ≤ 40) (hj : j < 2 + (escA d).length)
    (hb : (bodyA t d)[j]? ≠ some b) : FailsFrom (·.st = .rxReadType) ((bodyA t d).set j b) := by
  have hlen := lenByte_toNat hd
  match j with
  | 0 =>
    have hne : t ≠ b := fun h => hb (h ▸ rfl)
    have hacc : loByte (addByte (addByte 0 t) (lenByte d)) ≠ loByte (addByte (addByte 0 b) (lenByte d)) := by
      simpa [loByte_addByte] using hne
    exact failsFrom_type fun _ => hlen ▸ replyFails_of_sum_ne (loByte_foldl_ne hacc d)
  | 1 =>
    have hne : b.toNat ≠ d.length := fun h => hb (congrArg some (BitVec.eq_of_toNat_eq (hlen.trans h.symm)))
    exact failsFrom_type fun _ => replyFails_of_length_ne hne
  | j + 2 =>
    have hj : j < (escA d).length := by omega
    have hset : (bodyA t d).set (j + 2) b = t :: lenByte d :: ((escA d).set j b ++ trailerA (csumA t d)) := by
      simp [bodyA, List.set_append_left _ _ hj]
    have hb : (escA d)[j]? ≠ some b := by simpa [bodyA, List.getElem?_append_left hj] using hb
    rw [hset]
    exact failsFrom_type fun _ => hlen ▸ replyFails_of_data_changed d hj hb

end Reply

/-- The frame up to its trailing SYN is its header and its body (R107). -/
theorem take_frameA (a : Half) (q : BitVec 4) (t : Byte) (d : List Byte) :
    (frameA a q t d).take (15 + d.length + d.count 0x10) = headerA a q ++ bodyA t d := by
  have hframe : frameA a q t d = headerA a q ++ bodyA t d ++ postamble a := by simp [frameA, headerA, bodyA, trailerA]
  have hesc : (escA d).length = d.length + d.count 0x10 := length_escA d
  rw [hframe]
  refine List.take_left' ?_
  simp only [headerA, bodyA, trailerA, List.length_append, List.length_cons, List.length_nil, length_csumDigits, hesc]
  omega

/-- Settles O51: RX_A reads the handshake and the header to the type byte, and the changed body makes it fail. -/
theorem oneChangedByteNeverEndsOk : Obligations.OneChangedByteNeverEndsOk := by
  unfold Obligations.OneChangedByteNeverEndsOk
  rintro s a q ty d wire j b rest - hd rfl hle hlt hb hbusy hm hnr hproto hheld hanswers
  rw [take_frameA] at hb hheld ⊢
  have hheader : (headerA a q).length = 8 := rfl
  rw [List.getElem?_append_right (by omega), hheader] at hb
  rw [List.set_append_right _ _ (by omega), hheader] at hheld
  have hfails := failsFrom_header a q (failsFrom_changed_body hd (show j - 8 < 2 + (escA d).length by omega) hb)
  have hlength : (headerA a q ++ bodyA ty d).length + 6 =
      ([SYN, SYN, ACK, SYN] ++ (headerA a q ++ (bodyA ty d).set (j - 8) b)).length + 2 := by
    simp only [List.length_append, List.length_set, List.length_cons, List.length_nil]
    omega
  rw [hlength]
  obtain ⟨hnever, t, hends⟩ := hfails { start 0x02 .rxWaitSyn s with acc := 0, i := 0, n := 0 }
    ⟨hm, rfl, hheld, rest, hanswers⟩ rfl
  exact ⟨_, t, exec_rxA_of_accepted hbusy hnr hproto, hnever, hends⟩

end Sys2Proof.Machine
end

section
/-! PROOFS. One receive step, state by state (spec/41_protocol_a_rx.md R141 to R161), and that the trailing SYN is awaited only
after a good checksum (R165). -/

namespace Sys2Proof.Machine

/-! ### One receive step -/

/-- `Recv` leaves the block as it is (R13). -/
theorem eq_of_recv {s u : State} {r : RecvResult} (h : s.recv = (r, u)) :
    u = { s with line := u.line, draws := u.draws } := by
  obtain ⟨hs, as, d, hu⟩ := recv_spec s
  rw [h] at hu
  subst hu
  rfl

/-- A receiving state consumes the byte read by its own rule (R141). -/
theorem engineStep_of_byte {s u : State} {e : EngineState} {b : Byte} (hst : s.st = e) (he : e.receiving = true)
    (hrecv : s.recv = (.rbyte b, u)) : engineStep s = .next (rxByte b { u with st := e }) := by
  have hu : u.st = e := (congrArg State.st (eq_of_recv hrecv)).trans hst
  rw [engineStep_of_receiving (hst ▸ he), rxStep_of_byte hrecv, ← eq_with_st hu]

/-- Settles O46: the three verdicts of `Recv`. -/
theorem receiveTimeoutAndIoError : Obligations.ReceiveTimeoutAndIoError := by
  unfold Obligations.ReceiveTimeoutAndIoError
  intro s u hst
  rw [engineStep_of_receiving hst]
  refine ⟨fun hrecv => ?timeout, fun hrecv => ?ioError, fun b hrecv => by rw [rxStep_of_byte hrecv]⟩
  case timeout =>
    rw [rxStep_of_timeout hrecv, eq_of_recv hrecv]
    rfl
  case ioError =>
    rw [rxStep_of_ioerr hrecv, eq_of_recv hrecv]
    rfl

/-! ### The states that require one byte value -/

/-- Their state, code, byte and next state (R143, R145, R147, R148, R152, R158). -/
def requiredBytes : List (EngineState × BitVec 5 × Byte × EngineState) :=
  [(.rxWaitSyn, 1, SYN, .rxSkipExtraSyns), (.rxExpectSynAfterAck, 4, SYN, .rxExpectEmptyOrFrame),
    (.rxHdrSyn, 6, SYN, .rxHdrSoh), (.rxHdrSoh, 7, SOH, .rxHdrAddrHi), (.rxExpectDleStx, 11, DLE, .rxExpectStx),
    (.rxExpectStx, 12, STX, .rxReadType), (.rxExpectDleEtx, 17, DLE, .rxExpectEtx),
    (.rxExpectEtx, 18, ETX, .rxReadCsumHi)]

/-- Each of them receives, reports its own code and has the rule of its byte. -/
theorem of_mem_requiredBytes {e next : EngineState} {code : BitVec 5} {want : Byte}
    (h : (e, code, want, next) ∈ requiredBytes) : e.receiving = true ∧ e.code = code ∧
      ∀ (b : Byte) (s : State), rxByte b { s with st := e } = expectByte want next b { s with st := e } := by
  simp only [requiredBytes, List.mem_cons, Prod.mk.injEq, List.not_mem_nil, or_false] at h
  obtain ⟨rfl, rfl, rfl, rfl⟩ | ⟨rfl, rfl, rfl, rfl⟩ | ⟨rfl, rfl, rfl, rfl⟩ | ⟨rfl, rfl, rfl, rfl⟩ |
    ⟨rfl, rfl, rfl, rfl⟩ | ⟨rfl, rfl, rfl, rfl⟩ | ⟨rfl, rfl, rfl, rfl⟩ | ⟨rfl, rfl, rfl, rfl⟩ := h
  all_goals exact ⟨rfl, rfl, fun _ _ => rfl⟩

/-- Settles O41: `expectByte` goes on with its byte and is a violation with any other. -/
theorem statesThatRequireOneByte : Obligations.StatesThatRequireOneByte := by
  unfold Obligations.StatesThatRequireOneByte
  intro e next code want hmem s u b hst hrecv
  obtain ⟨hreceiving, rfl, hrule⟩ := of_mem_requiredBytes hmem
  rw [engineStep_of_byte hst hreceiving hrecv, hrule]
  exact ⟨fun hb => by rw [expectByte_of_eq hb], fun hb => by rw [expectByte_of_ne hb]; rfl⟩

/-! ### The rules of the other states -/

theorem rxSkipExtraSyns_of_other {b : Byte} (hsyn : b ≠ SYN) (hack : b ≠ ACK) (s : State) :
    rxSkipExtraSyns b s = rxFail .protocolViolation expectAckCode .unexpected b 0 s := by
  simp [rxSkipExtraSyns, hsyn, hack]

theorem rxExpectEmptyOrFrame_of_other {b : Byte} (hempty : b ≠ 0x00) (hsyn : b ≠ SYN) (s : State) :
    rxExpectEmptyOrFrame b s = viol .unexpected b 0 s := by
  rw [rxExpectEmptyOrFrame, if_neg hempty, if_neg hsyn]

theorem rxExpectTrailingSyn_of_other {b : Byte} (hsyn : b ≠ SYN) (s : State) :
    rxExpectTrailingSyn b s = viol .unexpected b 0 s := if_neg hsyn

theorem rxReadLen_of_gt {n : Byte} (hn : 40 < n.toNat) (s : State) : rxReadLen n s = viol .length n 0 s := if_pos hn

/-- A length that is not above 40 starts the data region (R153). -/
theorem rxReadLen_of_le {n : Byte} (hn : n.toNat ≤ 40) (s : State) : rxReadLen n s = { s with
    n := n, acc := addByte s.acc n, i := 0, st := if n = 0 then .rxExpectDleEtx else .rxReadData } :=
  if_neg (Nat.not_lt.mpr hn)

theorem rxReadData_of_ne_dle {b : Byte} (hb : b ≠ DLE) (s : State) : rxReadData b s = storeData b s := if_neg hb

theorem rxReadCsumHi_of_none {b : Byte} (hv : hexval b = none) (s : State) :
    rxReadCsumHi b s = viol .badDigit b 0 s := by
  simp [rxReadCsumHi, hv]

theorem rxReadCsumHi_of_some {b : Byte} {v : BitVec 4} (hv : hexval b = some v) (s : State) :
    rxReadCsumHi b s = { s with hi := v, st := .rxReadCsumLo } := by
  simp [rxReadCsumHi, hv]

theorem rxReadCsumLo_of_none {b : Byte} (hv : hexval b = none) (s : State) :
    rxReadCsumLo b s = viol .badDigit b 0 s := by
  simp [rxReadCsumLo, hv]

/-- Settles O42: the bytes the three states take, and the violation of any other. -/
theorem handshakeAndTrailingSyn : Obligations.HandshakeAndTrailingSyn := by
  unfold Obligations.HandshakeAndTrailingSyn
  intro s u b hrecv
  refine ⟨fun hst => ?skip, fun hst => ?emptyOrFrame, fun hst => ?trailing⟩ <;> rw [engineStep_of_byte hst rfl hrecv]
  case skip =>
    have hu : u.st = .rxSkipExtraSyns := (congrArg State.st (eq_of_recv hrecv)).trans hst
    refine ⟨?_, ?_, fun hsyn hack => congrArg _ (rxSkipExtraSyns_of_other hsyn hack _)⟩
    · rintro rfl
      exact congrArg _ (eq_with_st hu).symm
    · rintro rfl
      rfl
  case emptyOrFrame =>
    refine ⟨?_, ?_, fun hempty hsyn => congrArg _ (rxExpectEmptyOrFrame_of_other hempty hsyn _)⟩ <;> rintro rfl <;> rfl
  case trailing =>
    refine ⟨?_, fun hsyn => congrArg _ (rxExpectTrailingSyn_of_other hsyn _)⟩
    rintro rfl
    rfl

/-- Settles O43: no rule but the length's looks at the byte. -/
theorem headerTypeAndLength : Obligations.HeaderTypeAndLength := by
  unfold Obligations.HeaderTypeAndLength
  intro s u b hrecv
  have hframe := eq_of_recv hrecv
  have hra : u.ra = s.ra := (congrArg State.ra hframe :)
  have hacc : u.acc = s.acc := (congrArg State.acc hframe :)
  rw [← hra, ← hacc]
  refine ⟨fun hst => ?_, fun hst => ?_, fun hst => ?_, fun hst => ?_, fun hst => ?length⟩ <;>
    rw [engineStep_of_byte hst rfl hrecv]
  case length => exact ⟨fun hgt => congrArg _ (rxReadLen_of_gt hgt _), fun hle => congrArg _ (rxReadLen_of_le hle _)⟩
  all_goals rfl

/-- Settles O44: both states of the data region store the byte, RX_READ_DATA all but DLE. -/
theorem dataBytesAreUnescapedAndStored : Obligations.DataBytesAreUnescapedAndStored := by
  unfold Obligations.DataBytesAreUnescapedAndStored
  intro s u b hrecv
  refine ⟨?marker, fun hst => ⟨storeData b u, ?step, ?stored, fun a ha => ?others, ?frame⟩⟩
  case marker =>
    rintro hst rfl
    exact engineStep_of_byte hst rfl hrecv
  case step =>
    obtain ⟨hst, hb⟩ | hst := hst <;> rw [engineStep_of_byte hst rfl hrecv]
    · exact congrArg _ (rxReadData_of_ne_dle hb _)
    · rfl
  all_goals rw [eq_of_recv hrecv]
  case stored => exact (byteAt_storeData ..).trans (if_pos rfl)
  case others => exact (byteAt_storeData ..).trans (if_neg ha.symm)
  case frame => rfl

/-! ### The checksum -/

theorem csumOfDigits_eq_ofNat (hi v : BitVec 4) : csumOfDigits hi v = BitVec.ofNat 8 (hi.toNat * 16 + v.toNat) := by
  apply BitVec.eq_of_toNat_eq
  have h16 : BitVec.toNat (16 : Byte) = 16 := rfl
  simp only [csumOfDigits, BitVec.toNat_add, BitVec.toNat_mul, BitVec.toNat_setWidth, BitVec.toNat_ofNat, h16]
  omega

/-- In the trailer the accumulator's low byte is the checksum of what was received (R155, R160). -/
theorem State.Inv.loByte_acc {s : State} (hs : s.Inv) (hst : s.st.inTrailer = true) :
    loByte s.acc = csumA s.rt ((List.range s.n.toNat).map s.rxBuf) := by
  obtain ⟨hi, -⟩ := hs.trailerCount (.inl hst)
  have hlen : lenByte ((List.range s.n.toNat).map s.rxBuf) = s.n := by simp [lenByte]
  rw [hs.sumData (.inr (.inl hst)), csumA, hlen, State.decoded, hi]

/-- Settles O45: the two digits and the comparison; the invariant says what the accumulator holds. -/
theorem checksumDigitsAreCompared : Obligations.ChecksumDigitsAreCompared := by
  unfold Obligations.ChecksumDigitsAreCompared
  obtain ⟨-, hvalue, -⟩ := checksumDigitAlphabet
  refine ⟨fun s u b hrecv => ⟨fun e code hmem hst hv => ?badDigit, fun v hst hv => ?high, fun v rc hst hv hrc => ?low⟩,
    fun s hs hst => hs.loByte_acc (hst ▸ rfl), hvalue⟩
  case badDigit =>
    simp only [List.mem_cons, Prod.mk.injEq, List.not_mem_nil, or_false] at hmem
    obtain ⟨rfl, rfl⟩ | ⟨rfl, rfl⟩ := hmem <;> rw [engineStep_of_byte hst rfl hrecv]
    · exact congrArg _ (rxReadCsumHi_of_none hv _)
    · exact congrArg _ (rxReadCsumLo_of_none hv _)
  case high =>
    rw [engineStep_of_byte hst rfl hrecv]
    exact congrArg _ (rxReadCsumHi_of_some hv _)
  case low =>
    have hframe := eq_of_recv hrecv
    have hhi : u.hi = s.hi := (congrArg State.hi hframe :)
    have hacc : u.acc = s.acc := (congrArg State.acc hframe :)
    rw [← csumOfDigits_eq_ofNat, ← hhi] at hrc
    subst hrc
    rw [engineStep_of_byte hst rfl hrecv, ← hacc]
    exact ⟨fun heq => congrArg _ (rxReadCsumLo_of_eq hv heq), fun hne => congrArg _ (rxReadCsumLo_of_ne hv hne)⟩

/-- Settles O50: the invariant of the state reached, and the checksum as a sum (R101). -/
theorem trailingSynOnlyAfterGoodChecksum : Obligations.TrailingSynOnlyAfterGoodChecksum := by
  unfold Obligations.TrailingSynOnlyAfterGoodChecksum
  intro s t hs hstep hst
  have ht : t.Inv := stepKeepsLegalState s t hs hstep
  have htrailer : t.st.inTrailer = true := hst ▸ rfl
  obtain ⟨-, hn⟩ := ht.trailerCount (.inl htrailer)
  have hlen : ((List.range t.n.toNat).map t.rxBuf).length = t.n.toNat := by simp
  obtain ⟨-, -, hsum⟩ := checksumIsSumModulo256 t.rt ((List.range t.n.toNat).map t.rxBuf) (hlen.trans_le hn)
  rw [ht.sumMatches (.inl hst), ht.loByte_acc htrailer, hsum, hlen, List.map_map]
  rfl

end Sys2Proof.Machine
end

section
/-! PROOFS. The RX_FINISH step, by its pending result, and the merge of the no-reply bit (spec/41_protocol_a_rx.md R162,
R163). -/

namespace Sys2Proof.Machine

/-- The merge takes bit 15 from the received address and the others from ADDR (R163). -/
theorem mergeNoReply_getLsbD (addr ra : Half) {j : Nat} (hj : j < 16) :
    (mergeNoReply addr ra).getLsbD j = if j = 15 then ra.getLsbD 15 else addr.getLsbD j := by
  obtain ⟨hbit, hrest⟩ := mergeNoReply_bits addr ra
  split
  next h => rw [h, hbit]
  next h =>
    have hlow := congrArg (BitVec.getLsbD · j) hrest
    have hlt : j < 15 := by omega
    simpa [hlt] using hlow

theorem mergeNoReply_eq_or (addr ra : Half) : mergeNoReply addr ra = (addr &&& 0x7FFF) ||| (ra &&& 0x8000) := by
  have hmask : ∀ j < 16, (0x7FFF : Half).getLsbD j = decide (j ≠ 15) ∧ (0x8000 : Half).getLsbD j = decide (j = 15) := by
    decide
  refine BitVec.eq_of_getLsbD_eq fun j hj => ?_
  obtain ⟨hlow, hhigh⟩ := hmask j hj
  rw [mergeNoReply_getLsbD addr ra hj, BitVec.getLsbD_or, BitVec.getLsbD_and, BitVec.getLsbD_and, hlow, hhigh]
  by_cases h : j = 15 <;> simp [h]

/-- Merging an address with the same no-reply bit changes nothing (R163). -/
theorem mergeNoReply_of_nr_eq {addr ra : Half} (h : ra.getLsbD 15 = addr.getLsbD 15) : mergeNoReply addr ra = addr := by
  refine BitVec.eq_of_getLsbD_eq fun j hj => ?_
  rw [mergeNoReply_getLsbD addr ra hj, h]
  split
  next h15 => rw [h15]
  next => rfl

theorem rxFinishStep_of_ok {s : State} (h : s.pend = .ok) : rxFinishStep s = finish .ok { s.flush with
    rxhdr := { addr := s.ra, seq := s.rs, mtype := s.rt }
    rxinfo := { len := s.n, csum := s.rc }
    addr := mergeNoReply s.addr s.ra } := by
  simp [rxFinishStep, publish, h]

theorem rxFinishStep_of_okAckOnly {s : State} (h : s.pend = .okAckOnly) :
    rxFinishStep s = finish .okAckOnly { s.flush with rxinfo := { len := 0, csum := 0 } } := by
  simp [rxFinishStep, publish, h]

/-- Every other result publishes nothing (R162). -/
theorem rxFinishStep_of_other {s : State} (hok : s.pend ≠ .ok) (hack : s.pend ≠ .okAckOnly) :
    rxFinishStep s = finish s.pend s.flush := by
  have h := rxFinishStep_cases s
  generalize rxFinishStep s = t at h ⊢
  cases h with
  | ok h => exact absurd h hok
  | ackOnly h => exact absurd h hack
  | other => rfl

/-- Settles O47: what RX_FINISH does for each pending result. -/
theorem rxFinishFlushesAndReports : Obligations.RxFinishFlushesAndReports := by
  unfold Obligations.RxFinishFlushesAndReports
  intro s hst
  rw [engineStep_of_finish hst, ← mergeNoReply_eq_or]
  exact ⟨fun hok => congrArg _ (rxFinishStep_of_ok hok), fun hack => congrArg _ (rxFinishStep_of_okAckOnly hack),
    fun hok hack => congrArg _ (rxFinishStep_of_other hok hack)⟩

end Sys2Proof.Machine
end

section
/-! PROOFS. RX_A that holds a good reply (spec/41_protocol_a_rx.md R143 to R164; spec/70_reset_and_hazards.md R253): what a run
of bytes does to the receive machine, a whole frame, and the run from acceptance to the reported result. -/

namespace Sys2Proof.Machine

/-! ### Reading a run of bytes -/

theorem expectByte_line (want : Byte) (e : EngineState) (b : Byte) (s : State) (l : Line) :
    expectByte want e b { s with line := l } = { expectByte want e b s with line := l } := by
  unfold expectByte
  split <;> rfl

/-- What a state does with a byte neither reads nor writes the transport (R141). -/
theorem rxByte_line (b : Byte) (s : State) (l : Line) :
    rxByte b { s with line := l } = { rxByte b s with line := l } := by
  cases hst : s.st <;> rw [eq_with_st hst]
  case rxWaitSyn | rxExpectSynAfterAck | rxHdrSyn | rxHdrSoh | rxExpectDleStx | rxExpectStx | rxExpectDleEtx
      | rxExpectEtx =>
    exact expectByte_line _ _ b _ l
  case rxSkipExtraSyns | rxExpectEmptyOrFrame | rxReadLen | rxReadData | rxExpectTrailingSyn =>
    simp only [rxByte, rxSkipExtraSyns, rxExpectEmptyOrFrame, rxReadLen, rxReadData, rxExpectTrailingSyn]
    split_ifs <;> rfl
  case rxReadCsumHi =>
    simp only [rxByte, rxReadCsumHi]
    cases hexval b <;> rfl
  case rxReadCsumLo =>
    simp only [rxByte, rxReadCsumLo]
    cases hexval b with
    | none => rfl
    | some v =>
      simp only
      split_ifs <;> rfl
  case idle | rxFinish | txASend | txAckSend | txBSend | rxHdrAddrHi | rxHdrAddrLo | rxHdrSeq | rxReadType
      | rxReadDataEsc => rfl

/-- The bytes lead the receive machine from one state to the other, each consumed by its state's own rule (R141). -/
inductive Receives : List Byte → State → State → Prop
  | nil (s : State) : Receives [] s s
  | cons {b : Byte} {w : List Byte} {s t : State} : s.st.receiving = true → Receives w (rxByte b s) t →
      Receives (b :: w) s t

theorem Receives.trans {w w' : List Byte} {s t u : State} (h : Receives w s t) (h' : Receives w' t u) :
    Receives (w ++ w') s u := by
  induction h with
  | nil s => exact h'
  | cons hst _ ih => exact .cons hst (ih h')

theorem Receives.byte {b : Byte} {s t : State} (hst : s.st.receiving = true) (h : rxByte b s = t) :
    Receives [b] s t := h ▸ .cons hst (.nil _)

/-- What received bytes may write. -/
theorem Receives.frame {w : List Byte} {s t : State} (h : Receives w s t) :
    t = { s with
      mem := t.mem, errinfo := t.errinfo, st := t.st, acc := t.acc, n := t.n, i := t.i, hi := t.hi, ra := t.ra
      rs := t.rs, rt := t.rt, rc := t.rc, pend := t.pend } := by
  induction h with
  | nil s => rfl
  | @cons b w s t hst _ ih =>
    rw [(rxByte_cases b hst).frame] at ih
    exact ih

/-- The oldest held byte is read and consumed (R141). -/
theorem step_of_held {s : State} {b : Byte} {bs : List Byte} (hm : s.moves = []) (hst : s.st.receiving = true)
    (hheld : s.line.held = b :: bs) :
    step s = .next { rxByte b s with line := { s.line with held := bs } } := by
  rw [step_of_nil hm, engineStep_of_receiving hst, rxStep_of_byte (recv_of_held hheld), rxByte_line]

/-- Held bytes are read one a step (R141, R253). -/
theorem Receives.runSteps {w : List Byte} {s t : State} (h : Receives w s t) (hm : s.moves = []) {l : Line}
    {more : List Byte} (hheld : l.held = w ++ more) :
    Machine.runSteps w.length { s with line := l } = .next { t with line := { l with held := more } } := by
  induction h generalizing l with
  | nil s =>
    obtain rfl : l.held = more := hheld
    rfl
  | @cons b w s t hst _ ih =>
    have hstep := step_of_held (s := { s with line := l }) hm hst hheld
    rw [rxByte_line] at hstep
    have hm' : (rxByte b s).moves = [] := (congrArg State.moves (rxByte_cases b hst).frame :).trans hm
    rw [List.length_cons, runSteps_succ _ hstep]
    exact ih hm' rfl

/-- Held bytes that lead to RX_FINISH end the command in one more step, which flushes what is held after them (R162). -/
theorem Receives.runSteps_finish {w : List Byte} {s t : State} (h : Receives w s t) (hm : s.moves = [])
    (hst : t.st = .rxFinish) {more : List Byte} (hheld : s.line.held = w ++ more) :
    Machine.runSteps (w.length + 1) s = .next (rxFinishStep { t with line := { s.line with held := more } }) := by
  have hm' : t.moves = [] := (congrArg State.moves h.frame :).trans hm
  rw [runSteps_add _ 1 (h.runSteps hm hheld)]
  exact runSteps_succ 0 ((step_of_nil (s := { t with line := { s.line with held := more } }) hm').trans
    (engineStep_of_finish hst))

/-! ### The data region (R154 to R156) -/

/-- The data bytes are stored one by one (R155). -/
def storeAll (d : List Byte) (s : State) : State := d.foldl (fun s b => storeData b s) s

theorem storeAll_cons (b : Byte) (d : List Byte) (s : State) : storeAll (b :: d) s = storeAll d (storeData b s) := rfl

/-- What stored data may write. -/
theorem storeAll_frame (d : List Byte) (s : State) :
    storeAll d s = { s with
      mem := (storeAll d s).mem, acc := d.foldl addByte s.acc, i := (storeAll d s).i, st := (storeAll d s).st } := by
  induction d generalizing s with
  | nil => rfl
  | cons b d ih => exact ih (storeData b s)

/-- Stored data change the bytes from `RXBUF[i]` on, as many as they are (R155). -/
theorem byteAt_storeAll_of_outside (d : List Byte) {s : State} (h : s.i.toNat + d.length ≤ 40) {x : Nat}
    (hx : x < rxBase + s.i.toNat ∨ rxBase + s.i.toNat + d.length ≤ x) : (storeAll d s).byteAt x = s.byteAt x := by
  induction d generalizing s with
  | nil => rfl
  | cons b d ih =>
    rw [List.length_cons] at h hx
    have hi : (storeData b s).i.toNat = s.i.toNat + 1 := index_succ_toNat (show s.i.toNat < 40 by omega)
    rw [storeAll_cons, ih (by omega) (by omega), byteAt_storeData, if_neg (by omega)]

/-- Stored data are found from `RXBUF[i]` on (R155). -/
theorem rxBuf_storeAll (d : List Byte) {s : State} (h : s.i.toNat + d.length ≤ 40) {j : Nat} (hj : j < d.length) :
    (storeAll d s).rxBuf (s.i.toNat + j) = d[j] := by
  induction d generalizing s j with
  | nil => exact absurd hj (Nat.not_lt_zero j)
  | cons b d ih =>
    rw [List.length_cons] at h hj
    have hi : (storeData b s).i.toNat = s.i.toNat + 1 := index_succ_toNat (show s.i.toNat < 40 by omega)
    rw [storeAll_cons]
    cases j with
    | zero =>
      rw [State.rxBuf, byteAt_storeAll_of_outside d (by omega) (by omega), byteAt_storeData, Nat.add_zero, if_pos rfl]
      rfl
    | succ j =>
      rw [show s.i.toNat + (j + 1) = (storeData b s).i.toNat + j by omega]
      exact ih (by omega) (by omega)

/-- The wire form of a data byte is stored as that byte (R154 to R156). -/
theorem receives_escByteA (b : Byte) {s : State} (hst : s.st = .rxReadData) :
    Receives (escByteA b) s (storeData b s) := by
  rw [eq_with_st hst]
  by_cases hb : b = DLE
  · rw [escByteA_of_dle hb, hb]
    exact .cons rfl <| .cons rfl <| .nil _
  · rw [escByteA_of_ne hb]
    exact .byte rfl (rxReadData_of_ne_dle hb _)

/-- The wire form of data is stored as the data, which ends the data region (R154 to R156). -/
theorem receives_escA {d : List Byte} {acc : Half} {s : State} (h : s.Reads (dataState d.length) d.length acc) :
    Receives (escA d) s (storeAll d s) ∧ (storeAll d s).Reads .rxExpectDleEtx 0 (d.foldl addByte acc) := by
  induction d generalizing s acc with
  | nil => exact ⟨.nil s, h⟩
  | cons b d ih =>
    obtain ⟨hst, -⟩ := id h
    obtain ⟨hrest, hreads⟩ := ih (State.Reads.storeData h b)
    rw [escA_cons]
    exact ⟨(receives_escByteA b hst).trans hrest, hreads⟩

/-! ### A whole frame (R143 to R161) -/

theorem hiByte_append_loByte (a : Half) : hiByte a ++ loByte a = a := by
  rw [hiByte, loByte, BitVec.extractLsb'_append_extractLsb'_eq_extractLsb' (by rfl)]
  exact BitVec.extractLsb'_eq_self

/-- A byte that changes the engine's state alone. -/
theorem Receives.advance {e : EngineState} (e' : EngineState) {b : Byte} {w : List Byte} {s t : State}
    (he : e.receiving = true) (hbyte : ∀ s : State, rxByte b { s with st := e } = { s with st := e' })
    (h : Receives w { s with st := e' } t) : Receives (b :: w) { s with st := e } t :=
  .cons he (hbyte s ▸ h)

/-- The handshake and a frame's header put the address and the sequence digit to `ra` and `rs` (R143 to R152). -/
theorem receives_header (a : Half) (q : BitVec 4) {s : State} (hst : s.st = .rxWaitSyn) :
    Receives ([SYN, SYN, ACK, SYN] ++ headerA a q) s { s with ra := a, rs := seqDigit q, st := .rxReadType } := by
  have hsync : Receives [SYN, SYN, ACK, SYN, SYN, SYN, SOH]
      { s with st := .rxWaitSyn } { s with st := .rxHdrAddrHi } :=
    .advance .rxSkipExtraSyns rfl (fun _ => rfl) <|
    .advance .rxSkipExtraSyns rfl (fun _ => rfl) <|
    .advance .rxExpectSynAfterAck rfl (fun _ => rfl) <|
    .advance .rxExpectEmptyOrFrame rfl (fun _ => rfl) <|
    .advance .rxHdrSyn rfl (fun _ => rfl) <|
    .advance .rxHdrSoh rfl (fun _ => rfl) <|
    .advance .rxHdrAddrHi rfl (fun _ => rfl) <| .nil _
  have haddr : Receives [hiByte a, loByte a, seqDigit q] { s with st := .rxHdrAddrHi }
      { s with ra := hiByte (hiByte a ++ loByte s.ra) ++ loByte a, rs := seqDigit q, st := .rxExpectDleStx } :=
    .cons rfl <| .cons rfl <| .cons rfl <| .nil _
  have hstx : Receives [DLE, STX] { s with ra := a, rs := seqDigit q, st := .rxExpectDleStx }
      { s with ra := a, rs := seqDigit q, st := .rxReadType } :=
    .cons rfl <| .cons rfl <| .nil _
  rw [hiByte_append, hiByte_append_loByte] at haddr
  rw [eq_with_st hst]
  exact hsync.trans (haddr.trans hstx)

theorem dataState_toNat (n : Byte) : dataState n.toNat = if n = 0 then .rxExpectDleEtx else .rxReadData :=
  if_congr (BitVec.toNat_inj (y := 0)) rfl rfl

/-- A receive state right after a reply's length byte (R149 to R153). -/
def State.afterLength (a : Half) (q : BitVec 4) (ty n : Byte) (s : State) : State :=
  { s with
    ra := a, rs := seqDigit q, rt := ty, acc := addByte (addByte 0 ty) n, n := n, i := 0, st := dataState n.toNat }

/-- The handshake, a frame's header and any type and length byte start the data region (R143 to R153). -/
theorem receives_afterLength (a : Half) (q : BitVec 4) (ty : Byte) {n : Byte} (hn : n.toNat ≤ 40) {s : State}
    (hst : s.st = .rxWaitSyn) :
    Receives ([SYN, SYN, ACK, SYN] ++ headerA a q ++ [ty, n]) s (s.afterLength a q ty n) := by
  have hacc : addByte 0 ty = ty.setWidth 16 := BitVec.zero_add _
  have hbytes : Receives [ty, n] { s with ra := a, rs := seqDigit q, st := .rxReadType } (s.afterLength a q ty n) := by
    rw [State.afterLength, hacc, dataState_toNat]
    exact .cons rfl (.byte rfl (rxReadLen_of_le hn _))
  exact (receives_header a q hst).trans hbytes

/-- A trailer whose checksum is the sum's low byte completes the reply (R158 to R161). -/
theorem receives_trailerA {c : Byte} {s : State} (hst : s.st = .rxExpectDleEtx) (hc : c = loByte s.acc) :
    Receives (trailerA c) s { s with hi := c.extractLsb' 4 4, rc := c, pend := .ok, st := .rxFinish } := by
  have hhigh : rxByte (hexA (c.extractLsb' 4 4)) { s with st := .rxReadCsumHi } =
      { s with hi := c.extractLsb' 4 4, st := .rxReadCsumLo } := by
    simp [rxByte, rxReadCsumHi, hexval_hexA]
  have hlow : rxByte (hexA (c.extractLsb' 0 4)) { s with hi := c.extractLsb' 4 4, st := .rxReadCsumLo } =
      { s with hi := c.extractLsb' 4 4, rc := c, st := .rxExpectTrailingSyn } := by
    rw [rxByte, rxReadCsumLo_of_eq (hexval_hexA _) (by rw [csumOfDigits_extract, hc]), csumOfDigits_extract]
  have hmarker : Receives [DLE, ETX] { s with st := .rxExpectDleEtx } { s with st := .rxReadCsumHi } :=
    .cons rfl <| .cons rfl <| .nil _
  have hsyn : Receives [SYN] { s with hi := c.extractLsb' 4 4, rc := c, st := .rxExpectTrailingSyn }
      { s with hi := c.extractLsb' 4 4, rc := c, pend := .ok, st := .rxFinish } :=
    .cons rfl <| .nil _
  rw [eq_with_st hst]
  exact hmarker.trans ((Receives.byte rfl hhigh).trans ((Receives.byte rfl hlow).trans hsyn))

theorem frameA_of_reply {a : Half} (ha : a.getLsbD 15 = false) (q : BitVec 4) (t : Byte) (d : List Byte) :
    frameA a q t d = headerA a q ++ bodyA t d := by
  have hpost : postamble a = [] := if_neg (ha ▸ Bool.false_ne_true)
  simp [frameA, headerA, bodyA, trailerA, hpost]

/-- A reply was read whole and RX_FINISH is next: OK is pending, its data are stored, and its header, length and checksum are
kept. -/
structure ReplyRead (a : Half) (q : BitVec 4) (ty : Byte) (d : List Byte) (s t : State) : Prop where
  st : t.st = .rxFinish
  pend : t.pend = .ok
  addr : t.ra = a
  seq : t.rs = seqDigit q
  type : t.rt = ty
  length : t.n = lenByte d
  csum : t.rc = csumA ty d
  errinfo : t.errinfo = s.errinfo
  data : ∀ j, (h : j < d.length) → t.rxBuf j = d[j]
  others : ∀ x, x < rxBase ∨ rxBase + d.length ≤ x → t.byteAt x = s.byteAt x

/-- RX_A that waits for the handshake reads every frame without the no-reply bit whole (R143 to R161). -/
theorem receives_reply (a : Half) (q : BitVec 4) (ty : Byte) {d : List Byte} (hd : d.length ≤ 40) {s : State}
    (hst : s.st = .rxWaitSyn) :
    ∃ t, Receives ([SYN, SYN, ACK, SYN] ++ headerA a q ++ bodyA ty d) s t ∧ ReplyRead a q ty d s t := by
  have hlen := lenByte_toNat hd
  have hstart := receives_afterLength a q ty (n := lenByte d) (by omega) hst
  obtain ⟨hdata, hend, hacc, -⟩ := receives_escA (d := d) (acc := addByte (addByte 0 ty) (lenByte d))
    (s := s.afterLength a q ty (lenByte d)) ⟨congrArg dataState hlen, rfl, hlen ▸ Nat.zero_add _, hlen ▸ hd⟩
  have htrailer := receives_trailerA (c := csumA ty d) hend (by rw [hacc]; rfl)
  have h := hstart.trans (hdata.trans htrailer)
  rw [List.append_assoc _ [ty, lenByte d]] at h
  have hframe := storeAll_frame d (s.afterLength a q ty (lenByte d))
  have hi : (s.afterLength a q ty (lenByte d)).i.toNat = 0 := rfl
  have hspace : (s.afterLength a q ty (lenByte d)).i.toNat + d.length ≤ 40 := by omega
  refine ⟨_, h, ?_⟩
  exact {
    st := rfl
    pend := rfl
    addr := (congrArg State.ra hframe :)
    seq := (congrArg State.rs hframe :)
    type := (congrArg State.rt hframe :)
    length := (congrArg State.n hframe :)
    csum := rfl
    errinfo := (congrArg State.errinfo hframe :)
    data := fun j hj => by
      have hbyte := rxBuf_storeAll d hspace hj
      rw [hi, Nat.zero_add] at hbyte
      exact hbyte
    others := fun x hx => byteAt_storeAll_of_outside d hspace hx }

/-! ### RX_A's run -/

/-- RX_A right after its acceptance (R140). -/
def State.rxAccepted (s : State) : State := { start 0x02 .rxWaitSyn s with acc := 0, i := 0, n := 0 }

/-- RX_A that holds bytes which lead it to RX_FINISH ends in a step for each of them and one more (R253). -/
theorem rxA_runs_to_finish {s t : State} {w more : List Byte} (hbusy : s.busy = false) (hm : s.moves = [])
    (hnr : s.nr = false) (hproto : s.proto = .a) (h : Receives w s.rxAccepted t) (hst : t.st = .rxFinish)
    (hheld : s.line.held = w ++ more) :
    exec .rxA s = .next s.rxAccepted ∧ runSteps (w.length + 1) s.rxAccepted =
      .next (rxFinishStep { t with line := { s.line with held := more } }) :=
  ⟨exec_rxA_of_accepted hbusy hnr hproto, h.runSteps_finish hm hst hheld⟩

/-- Settles O49: the reply is read byte by byte, and RX_FINISH publishes what it left in the working registers. -/
theorem protocolARoundTrip : Obligations.ProtocolARoundTrip := by
  unfold Obligations.ProtocolARoundTrip
  intro s a q ty d more ha _ hd hbusy hm hnr hproto hheld
  obtain ⟨t, hreceives, hreply⟩ := receives_reply a q ty hd (s := s.rxAccepted) rfl
  rw [List.append_assoc, ← frameA_of_reply ha] at hreceives
  obtain ⟨hexec, hrun⟩ := rxA_runs_to_finish hbusy hm hnr hproto hreceives hreply.st hheld
  rw [List.length_append, rxFinishStep_of_ok (s := { t with line := { s.line with held := more } }) hreply.pend] at hrun
  have hframe := hreceives.frame
  have haddr : t.addr = s.addr := (congrArg State.addr hframe :)
  refine ⟨_, _, hexec, hrun, rfl, rfl, rfl, hreply.errinfo, hreply.data, ?header, ?info, ?addr,
    (congrArg State.seq hframe :), rfl, ?bytes⟩
  case header => simp [hreply.addr, hreply.seq, hreply.type, seqDigit]
  case info => simp [hreply.length, hreply.csum, lenByte]
  case addr => exact (mergeNoReply_of_nr_eq (by rw [haddr, hnr, hreply.addr, ha])).trans haddr
  case bytes => exact hreply.others

/-- Extra SYN bytes are skipped (R144). -/
theorem receives_syns (m : Nat) (s : State) : Receives (List.replicate m SYN) { s with st := .rxSkipExtraSyns }
    { s with st := .rxSkipExtraSyns } := by
  induction m with
  | zero => exact .nil _
  | succ m ih => exact .advance .rxSkipExtraSyns rfl (fun _ => rfl) ih

/-- Settles O48: the SYN bytes, then ACK, SYN and the empty reply's 0x00. -/
theorem ackOnlyReplyIsAccepted : Obligations.AckOnlyReplyIsAccepted := by
  unfold Obligations.AckOnlyReplyIsAccepted
  intro s m more hbusy hm hnr hproto hheld
  have hsyns : Receives (List.replicate (m + 1) SYN) s.rxAccepted { s.rxAccepted with st := .rxSkipExtraSyns } :=
    .advance .rxSkipExtraSyns rfl (fun _ => rfl) (receives_syns m s.rxAccepted)
  have hempty : Receives [ACK, SYN, 0x00] { s.rxAccepted with st := .rxSkipExtraSyns }
      { s.rxAccepted with pend := .okAckOnly, st := .rxFinish } :=
    .cons rfl <| .cons rfl <| .cons rfl <| .nil _
  obtain ⟨hexec, hrun⟩ := rxA_runs_to_finish hbusy hm hnr hproto (hsyns.trans hempty) rfl hheld
  rw [List.length_append, List.length_replicate, rxFinishStep_of_okAckOnly rfl] at hrun
  exact ⟨_, _, hexec, hrun, rfl, rfl, rfl, rfl, rfl, rfl, rfl, rfl, rfl, fun _ => rfl⟩

end Sys2Proof.Machine
end

section
/-! PROOFS. Protocol B: the destuffer (spec/42_protocol_b.md R191, R192), RX_B (R201), and the CRC's update and check values
(R180, R181). -/

namespace Sys2Proof.Machine

/-! ### Destuffing -/

theorem destuffB_of_marker {y : Byte} (h : y = START ∨ y = STOP) (ys : List Byte) : destuffB (y :: ys) = none := by
  cases ys with
  | nil => exact if_pos (h.imp_right .inl)
  | cons z ys => exact if_pos h

theorem destuffB_lone_escape : destuffB [ESC] = none := if_pos (.inr (.inr rfl))

theorem unescB_of_unknown {c : Byte} (h0 : c ≠ 0x00) (h1 : c ≠ 0x01) (h2 : c ≠ 0x02) : unescB c = none := by
  rw [unescB, if_neg h0, if_neg h1, if_neg h2]

/-- Each known escape code is the one the stuffer writes for its byte (R189, R191). -/
theorem escB_of_unescB {c x : Byte} (h : unescB c = some x) : escB x = [ESC, c] := by
  unfold unescB at h
  split_ifs at h with h0 h1 h2 <;> cases h
  · rw [h0]; rfl
  · rw [h1]; rfl
  · rw [h2]; rfl

theorem stuffB_cons_plain {x : Byte} (hstart : x ≠ START) (hstop : x ≠ STOP) (hesc : x ≠ ESC) (xs : List Byte) :
    stuffB (x :: xs) = x :: stuffB xs := by
  simp [escB, hstart, hstop, hesc]

theorem destuffB_escB_append (x : Byte) (ys : List Byte) : destuffB (escB x ++ ys) = (destuffB ys).map (x :: ·) := by
  obtain ⟨rfl, h⟩ | ⟨rfl, h⟩ | ⟨rfl, h⟩ | ⟨hesc, hstart, hstop, h⟩ := escB_cases x <;> rw [h]
  · exact destuffB_escape 0x00 ys
  · exact destuffB_escape 0x01 ys
  · exact destuffB_escape 0x02 ys
  · exact destuffB_plain hstart hstop hesc ys

/-- The destuffer reads a stuffed beginning whole; what is after it decides whether the list is INVALID. -/
theorem destuffB_stuffB_append (xs ys : List Byte) : destuffB (stuffB xs ++ ys) = (destuffB ys).map (xs ++ ·) := by
  induction xs with
  | nil => simp
  | cons x xs ih =>
    rw [stuffB_cons, List.append_assoc, destuffB_escB_append, ih, Option.map_map]
    rfl

theorem destuffB_stuffB (xs : List Byte) : destuffB (stuffB xs) = some xs := by
  simpa using destuffB_stuffB_append xs []

theorem destuffB_stuffB_append_of_none {ys : List Byte} (h : destuffB ys = none) (xs : List Byte) :
    destuffB (stuffB xs ++ ys) = none := by
  rw [destuffB_stuffB_append, h, Option.map_none]

/-- Only a stuffed list destuffs, by the destuffer's recursion (R191). -/
theorem stuffB_of_destuffB {xs ys : List Byte} (h : destuffB ys = some xs) : stuffB xs = ys := by
  induction ys using destuffB.induct generalizing xs with
  | case1 =>
    cases h
    rfl
  | case2 y hy => simp [destuffB, hy] at h
  | case3 y hy =>
    simp only [not_or] at hy
    obtain ⟨hstart, hstop, hesc⟩ := hy
    rw [destuffB_plain hstart hstop hesc] at h
    cases h
    exact stuffB_cons_plain hstart hstop hesc []
  | case4 y z ys hy => cases (destuffB_of_marker hy _).symm.trans h
  | case5 z ys x hx _ ih =>
    rw [destuffB_escape, hx] at h
    obtain ⟨xs, hxs, rfl⟩ := Option.map_eq_some_iff.mp h
    rw [stuffB_cons, escB_of_unescB hx, ih hxs]
    rfl
  | case6 z ys hx _ =>
    rw [destuffB_escape, hx] at h
    cases h
  | case7 y z ys hy hesc ih =>
    obtain ⟨hstart, hstop⟩ := not_or.mp hy
    rw [destuffB_plain hstart hstop hesc] at h
    obtain ⟨xs, hxs, rfl⟩ := Option.map_eq_some_iff.mp h
    rw [stuffB_cons_plain hstart hstop hesc, ih hxs]

/-- Settles O59: a frame's inside is its body and CRC stuffed, and what follows a stuffed beginning decides its destuffing. -/
theorem protocolBRoundTrip : Obligations.ProtocolBRoundTrip := by
  unfold Obligations.ProtocolBRoundTrip
  refine ⟨destuffB_stuffB, ?frame, fun xs ys => ⟨stuffB_of_destuffB, fun h => h ▸ destuffB_stuffB xs⟩,
    fun xs ys => ⟨?start, ?stop, ?escape, fun c h0 h1 h2 => ?code⟩⟩
  case frame =>
    intro r _ _ _ _ _ _ _ body inner _ hwrap
    have hinner : stuffB (withCrc r body) = inner := List.append_cancel_left (List.append_cancel_right hwrap)
    exact hinner ▸ destuffB_stuffB (withCrc r body)
  case start => exact destuffB_stuffB_append_of_none (destuffB_of_marker (.inl rfl) ys) xs
  case stop => exact destuffB_stuffB_append_of_none (destuffB_of_marker (.inr rfl) ys) xs
  case escape => exact destuffB_stuffB_append_of_none destuffB_lone_escape xs
  case code =>
    have hunknown : destuffB (ESC :: c :: ys) = none := by
      rw [destuffB_escape, unescB_of_unknown h0 h1 h2, Option.bind_none]
    exact destuffB_stuffB_append_of_none hunknown xs

/-! ### RX_B -/

/-- Settles O30: RX_B ends in its accepting step. -/
theorem rxBIsUnsupported : Obligations.RxBIsUnsupported := by
  unfold Obligations.RxBIsUnsupported
  intro s hbusy hst
  rw [exec_rxB, whileIdle_of_idle hbusy, acceptRxB, finish_of_idle hbusy hst]

/-! ### The CRC -/

theorem crcShifts_eq_iterate (r : Bool) (k : Nat) (c : Half) : crcShifts r k c = (crcShift r)^[k] c := by
  induction k generalizing c with
  | zero => rfl
  | succ k ih => exact ih (crcShift r c)

/-- The CRC's register before the final XOR (R180). -/
theorem crc16B_xor_xorOut (r : Bool) (xs : List Byte) :
    crc16B r xs ^^^ Config.crcXorOut = xs.foldl (crcByte r) Config.crcSeed := by
  rw [crc16B, BitVec.xor_assoc, BitVec.xor_self, BitVec.xor_zero]

/-- One more byte goes into the register and is followed by eight shifts (R180). -/
theorem crc16B_concat_xor_xorOut (r : Bool) (xs : List Byte) (b : Byte) :
    crc16B r (xs ++ [b]) ^^^ Config.crcXorOut =
      (crcShift r)^[8] ((crc16B r xs ^^^ Config.crcXorOut) ^^^ if r then b.setWidth 16 else b.setWidth 16 <<< 8) := by
  rw [crc16B_xor_xorOut, crc16B_xor_xorOut, List.foldl_concat, crcByte, crcShifts_eq_iterate]

/-- Settles O57: the update in each bit order; the check values (R181) are computed. -/
theorem crcUpdateAndCheckValues : Obligations.CrcUpdateAndCheckValues := by
  unfold Obligations.CrcUpdateAndCheckValues
  exact ⟨fun r => crc16B_xor_xorOut r [], crc16B_concat_xor_xorOut true, crc16B_concat_xor_xorOut false,
    by decide +kernel⟩

end Sys2Proof.Machine
end

section
/-! PROOFS. The acceptance checks in their order, and the rejections they answer (spec/60_exceptions.md R222 to R224). -/

namespace Sys2Proof.Machine

/-! ### Rejections: which check each command fails -/

theorem acceptTxA_of_long {s : State} (hlen : 40 < s.txlen.toNat) : acceptTxA s = finish .invalidArgument s := by
  simpa [hlen, hlen.not_ge] using acceptTxA_cases s

theorem acceptTxA_of_protoB {s : State} (hlen : s.txlen.toNat ≤ 40) (hproto : s.proto = .b) :
    acceptTxA s = finish .unsupported s := by
  simpa [hlen, hlen.not_gt, hproto] using acceptTxA_cases s

theorem acceptTxB_of_long {s : State} (hlen : 254 < s.mflTxB) : acceptTxB s = finish .invalidArgument s := by
  simpa [hlen, hlen.not_ge] using acceptTxB_cases s

theorem acceptTxB_of_protoA {s : State} (hlen : s.mflTxB ≤ 254) (hproto : s.proto = .a) :
    acceptTxB s = finish .unsupported s := by
  simpa [hlen, hlen.not_gt, hproto] using acceptTxB_cases s

/-- Both rejections of R140 report the same result, so their order cannot be seen. -/
theorem acceptRxA_of_nr_or_protoB {s : State} (h : s.nr = true ∨ s.proto = .b) :
    acceptRxA s = finish .unsupported s := by
  obtain ⟨-, hfinish⟩ | ⟨hnr, hproto, -⟩ := acceptRxA_cases s
  · exact hfinish
  · simp [hnr, hproto] at h

theorem acceptAckA_of_protoB {s : State} (hproto : s.proto = .b) : acceptAckA s = finish .unsupported s := by
  simpa [hproto] using acceptAckA_cases s

/-- A command whose acceptance ends by `finish` writes RESULT only (R222). -/
theorem exec_of_rejected {i : Instr} {s : State} {accept : State → State} {r : Result}
    (hexec : exec i s = .next (whileIdle accept s)) (hbusy : s.busy = false) (hst : s.st = .idle)
    (hrejected : accept s = finish r s) : exec i s = .next { s with result := r } := by
  rw [hexec, whileIdle_of_idle hbusy, hrejected, finish_of_idle hbusy hst]

/-- Settles O31: each clause is the rejection by the first check that fails. -/
theorem acceptanceChecksInOrder : Obligations.AcceptanceChecksInOrder := by
  unfold Obligations.AcceptanceChecksInOrder
  intro s hbusy hst
  refine ⟨fun hlen => ?txALong, fun hlen hproto => ?txAProto, fun hlen => ?txBLong, fun hlen hproto => ?txBProto,
    fun hnr => ?rxANoReply, fun hproto => ?rxAProto, fun hproto => ?ackAProto⟩
  case txALong => exact exec_of_rejected (exec_txA s) hbusy hst (acceptTxA_of_long hlen)
  case txAProto => exact exec_of_rejected (exec_txA s) hbusy hst (acceptTxA_of_protoB hlen hproto)
  case txBLong => exact exec_of_rejected (exec_txB s) hbusy hst (acceptTxB_of_long hlen)
  case txBProto => exact exec_of_rejected (exec_txB s) hbusy hst (acceptTxB_of_protoA hlen hproto)
  case rxANoReply => exact exec_of_rejected (exec_rxA s) hbusy hst (acceptRxA_of_nr_or_protoB (.inl hnr))
  case rxAProto => exact exec_of_rejected (exec_rxA s) hbusy hst (acceptRxA_of_nr_or_protoB (.inr hproto))
  case ackAProto => exact exec_of_rejected (exec_ackA s) hbusy hst (acceptAckA_of_protoB hproto)

end Sys2Proof.Machine
end
